-- ==== Sys2Proof/Word.lean ====
section
/-! DEFINITION. The words of G4ENC: the 32-bit host word, the colour of a pixel, and the names of the two line buffers. -/

namespace Sys2Proof

/-- A host data word: each host register is "32 bits wide on the host side" (10_state R29). -/
abbrev Word := BitVec 32

/-- A pixel's colour; WHITE = 0, BLACK = 1 (00_scope R10). -/
inductive Colour where
  | white
  | black
deriving DecidableEq, Repr, Inhabited

/-- The two line buffers a scan may read (41_scanner R140). -/
inductive Buffer where
  | cur
  | ref
deriving DecidableEq, Repr

end Sys2Proof
end

