-- ==== Sys2Proof/Config.lean ====
section
/-! DEFINITION. The parameters G4ENC fixes (00_scope R7) and the free values: what the spec leaves to the
environment or calls unspecified. A free value has no body, so nothing can be proved about which value it is. -/

namespace Sys2Proof.Config

/-- `W_MAX`, the largest legal width and the number of cells of a line buffer (00_scope R7, 10_state R37). -/
def wMax : Nat := 2623

/-- `Q_MAX`, the entries of each colour's makeup table (00_scope R7). -/
def qMax : Nat := 40

/-- `V_MAX`, the largest vertical offset coded (00_scope R7). -/
def vMax : Nat := 3

/-- DESIGN CHOICE (log entry 6). Whether the sink accepts transaction number `n`, where the script
`State.sinkAnswers` says nothing about it: "a free choice of the environment" (20_memory R74, decision D14). -/
opaque sinkAnswer (n : Nat) : Bool

/-- DESIGN CHOICE (log entry 8). Whether bit `k` of failed transaction number `n` reached the stream all the same:
a failed transaction "appends an unspecified part" of its bits (20_memory R70, 93 U2). -/
opaque keepsBit (n k : Nat) : Bool

/-- DESIGN CHOICE (log entry 5). The colour of pixel `i` of a line buffer nothing has written since its contents
became unspecified for the `era`-th time (10_state R37, R38, 93 U5, U6). -/
opaque freePixel (era i : Nat) : Colour

/-- DESIGN CHOICE (log entry 4). The value of the working register numbered `which`, `w` bits wide, after its
contents became unspecified for the `era`-th time (10_state R26, R41, 93 U7). -/
opaque freeReg (w era which : Nat) : BitVec w

end Sys2Proof.Config
end

