-- ==== Sys2Proof/Syntax.lean ====
section
/-! DEFINITION. The operations of G4ENC, one constructor per row of spec/opcode_table.json (30_encoding R107),
and the requests by which the environment hands them to the block. -/

namespace Sys2Proof

/-- One operation of the block. The code words are the block's emitted alphabet (R103), each standing for the step
that sends it (R105); the others are the host's and the internal operations. Operand widths: log entry 19. -/
inductive Instr where
  -- coding modes, 42_mode_selector R154 to R164
  | p
  | h
  | v0
  | vr1
  | vr2
  | vr3
  | vl1
  | vl2
  | vl3
  -- terminating codes, 43_run_length_emitter R183
  | wt0
  | wt1
  | wt2
  | wt3
  | wt4
  | wt5
  | wt6
  | wt7
  | wt8
  | wt9
  | wt10
  | wt11
  | wt12
  | wt13
  | wt14
  | wt15
  | wt16
  | wt17
  | wt18
  | wt19
  | wt20
  | wt21
  | wt22
  | wt23
  | wt24
  | wt25
  | wt26
  | wt27
  | wt28
  | wt29
  | wt30
  | wt31
  | wt32
  | wt33
  | wt34
  | wt35
  | wt36
  | wt37
  | wt38
  | wt39
  | wt40
  | wt41
  | wt42
  | wt43
  | wt44
  | wt45
  | wt46
  | wt47
  | wt48
  | wt49
  | wt50
  | wt51
  | wt52
  | wt53
  | wt54
  | wt55
  | wt56
  | wt57
  | wt58
  | wt59
  | wt60
  | wt61
  | wt62
  | wt63
  | bt0
  | bt1
  | bt2
  | bt3
  | bt4
  | bt5
  | bt6
  | bt7
  | bt8
  | bt9
  | bt10
  | bt11
  | bt12
  | bt13
  | bt14
  | bt15
  | bt16
  | bt17
  | bt18
  | bt19
  | bt20
  | bt21
  | bt22
  | bt23
  | bt24
  | bt25
  | bt26
  | bt27
  | bt28
  | bt29
  | bt30
  | bt31
  | bt32
  | bt33
  | bt34
  | bt35
  | bt36
  | bt37
  | bt38
  | bt39
  | bt40
  | bt41
  | bt42
  | bt43
  | bt44
  | bt45
  | bt46
  | bt47
  | bt48
  | bt49
  | bt50
  | bt51
  | bt52
  | bt53
  | bt54
  | bt55
  | bt56
  | bt57
  | bt58
  | bt59
  | bt60
  | bt61
  | bt62
  | bt63
  -- makeup codes, R182
  | wm64
  | wm128
  | wm192
  | wm256
  | wm320
  | wm384
  | wm448
  | wm512
  | wm576
  | wm640
  | wm704
  | wm768
  | wm832
  | wm896
  | wm960
  | wm1024
  | wm1088
  | wm1152
  | wm1216
  | wm1280
  | wm1344
  | wm1408
  | wm1472
  | wm1536
  | wm1600
  | wm1664
  | wm1728
  | bm64
  | bm128
  | bm192
  | bm256
  | bm320
  | bm384
  | bm448
  | bm512
  | bm576
  | bm640
  | bm704
  | bm768
  | bm832
  | bm896
  | bm960
  | bm1024
  | bm1088
  | bm1152
  | bm1216
  | bm1280
  | bm1344
  | bm1408
  | bm1472
  | bm1536
  | bm1600
  | bm1664
  | bm1728
  -- extended makeup codes, R182, R129
  | xm1792
  | xm1856
  | xm1920
  | xm1984
  | xm2048
  | xm2112
  | xm2176
  | xm2240
  | xm2304
  | xm2368
  | xm2432
  | xm2496
  | xm2560
  -- terminator, R94, R105
  | eofb
  -- sink transactions that are no codes, R195, R72
  | align
  | final
  -- commands, R97
  | init
  | row
  | eofbCmd
  | clear
  -- register writes, R98
  | wrWidth (w : BitVec 12)
  | wrCtrl (ba : Bool)
  | pix (c : Colour)
  -- register reads, R198
  | rdStatus
  | rdLoadcnt
  -- internal operations, R107
  | scan (l : Buffer) (n : BitVec 12) (s : BitVec 13)
  | rowenc
  | run (n : BitVec 12) (c : Colour)
  | emit (s : BitVec 6)
  | lookupMode (s : BitVec 6)
  | lookupTerm (c : Colour) (r : BitVec 6)
  | lookupMakeup (c : Colour) (q : BitVec 6)
deriving DecidableEq, Repr

/-- The contexts in which a code word is read (R104): at a mode position, at a white-run position, at a black-run
position. The same bit string stands for different operations in different contexts. -/
inductive CodeContext where
  | mode
  | white
  | black
deriving DecidableEq, Repr

/-- An internal operation with raw operands: the format `internal` "has no encoding, only operands" (R90). -/
inductive InternalOp where
  | scan (l : Buffer) (n : BitVec 12) (s : BitVec 13)
  | rowenc
  | run (n : BitVec 12) (c : Colour)
  | emit (s : BitVec 6)
  | lookupMode (s : BitVec 6)
  | lookupTerm (c : Colour) (r : BitVec 6)
  | lookupMakeup (c : Colour) (q : BitVec 6)
deriving DecidableEq, Repr

/-- A sink transaction that is not a code; the format `sink` has "no bits of its own" (R90). -/
inductive SinkOp where
  | align
  | final
deriving DecidableEq, Repr

/-- What the environment hands the block for one step, in encoded form. Host accesses carry the register offset of
R29 and the 32-bit data word; a code word carries its bits in transmission order (R91). Log entries 1 and 15. -/
inductive Request where
  | hostWrite (offset : Word) (data : Word)
  | hostRead (offset : Word)
  | code (ctx : CodeContext) (bits : List Bool)
  | sinkOp (op : SinkOp)
  | internal (op : InternalOp)
  | hardwareReset
  | resetDuring (offset : Word) (data : Word) (sent : Nat)
  | attachSink
deriving DecidableEq, Repr

end Sys2Proof
end

