-- ==== Sys2Proof/WellFormed.lean ====
section
/-! DEFINITION. Which operations are inside their contract: the operand ranges the spec gives and the operand
widths do not already enforce. -/

namespace Sys2Proof

/-- The operand is inside the contract of the operation. -/
def Instr.wellFormed : Instr → Bool
  | .scan _ _ s => decide (-1 ≤ s.toInt)                         -- R141, R144
  | .emit s => decide (s.toNat ≤ 8)                              -- R156
  | .lookupMode s => decide (s.toNat ≤ 8)                        -- R121
  | .lookupMakeup _ q => decide (1 ≤ q.toNat) && decide (q.toNat ≤ Config.qMax)   -- R123
  | _ => true

end Sys2Proof
end

