-- ==== Sys2Proof/Decode.lean ====
section
/-! DEFINITION. The decoder, total on any request and rejecting by name, and after it the encoder. The code words
are those of 40_code_tables R124 to R130 (as bit strings), the register offsets those of 10_state R29, the command
codes those of 30_encoding R97. -/

namespace Sys2Proof

/-! ### Bit strings in transmission order -/

/-- The `len` bits of `value` in transmission order, most significant first (R9, R91). -/
def bitsOf (len value : Nat) : List Bool :=
  (List.range len).map fun k => value.testBit (len - 1 - k)

/-- The number a bit string reads as, most significant bit first. -/
def valueOf (bits : List Bool) : Nat :=
  bits.foldl (fun acc b => 2 * acc + b.toNat) 0

/-- The colour of a pixel bit: 0 = WHITE, 1 = BLACK (R10). -/
def Colour.ofBit (b : Bool) : Colour :=
  if b then .black else .white

/-- The pixel bit of a colour (R10). -/
def Colour.toBit (c : Colour) : Bool :=
  decide (c = .black)

/-! ### Code words -/

/-- One code word: its length, its value (the bit string read as a number) and the operation it stands for. -/
structure CodeRow where
  len : Nat
  value : Nat
  instr : Instr
deriving DecidableEq, Repr

/-- The nine mode words (R92, R124) and the terminator, which is read at a mode position (R104 a, R130). -/
def modeWords : List CodeRow := [
  ⟨4, 0b0001, .p⟩,
  ⟨3, 0b001, .h⟩,
  ⟨1, 0b1, .v0⟩,
  ⟨3, 0b011, .vr1⟩,
  ⟨6, 0b000011, .vr2⟩,
  ⟨7, 0b0000011, .vr3⟩,
  ⟨3, 0b010, .vl1⟩,
  ⟨6, 0b000010, .vl2⟩,
  ⟨7, 0b0000010, .vl3⟩,
  ⟨24, 0b000000000001000000000001, .eofb⟩]

/-- White terminating code words, runs 0..31 (R125). -/
def whiteTermWordsLow : List CodeRow := [
  ⟨8, 0b00110101, .wt0⟩,
  ⟨6, 0b000111, .wt1⟩,
  ⟨4, 0b0111, .wt2⟩,
  ⟨4, 0b1000, .wt3⟩,
  ⟨4, 0b1011, .wt4⟩,
  ⟨4, 0b1100, .wt5⟩,
  ⟨4, 0b1110, .wt6⟩,
  ⟨4, 0b1111, .wt7⟩,
  ⟨5, 0b10011, .wt8⟩,
  ⟨5, 0b10100, .wt9⟩,
  ⟨5, 0b00111, .wt10⟩,
  ⟨5, 0b01000, .wt11⟩,
  ⟨6, 0b001000, .wt12⟩,
  ⟨6, 0b000011, .wt13⟩,
  ⟨6, 0b110100, .wt14⟩,
  ⟨6, 0b110101, .wt15⟩,
  ⟨6, 0b101010, .wt16⟩,
  ⟨6, 0b101011, .wt17⟩,
  ⟨7, 0b0100111, .wt18⟩,
  ⟨7, 0b0001100, .wt19⟩,
  ⟨7, 0b0001000, .wt20⟩,
  ⟨7, 0b0010111, .wt21⟩,
  ⟨7, 0b0000011, .wt22⟩,
  ⟨7, 0b0000100, .wt23⟩,
  ⟨7, 0b0101000, .wt24⟩,
  ⟨7, 0b0101011, .wt25⟩,
  ⟨7, 0b0010011, .wt26⟩,
  ⟨7, 0b0100100, .wt27⟩,
  ⟨7, 0b0011000, .wt28⟩,
  ⟨8, 0b00000010, .wt29⟩,
  ⟨8, 0b00000011, .wt30⟩,
  ⟨8, 0b00011010, .wt31⟩]

/-- White terminating code words, runs 32..63 (R125). -/
def whiteTermWordsHigh : List CodeRow := [
  ⟨8, 0b00011011, .wt32⟩,
  ⟨8, 0b00010010, .wt33⟩,
  ⟨8, 0b00010011, .wt34⟩,
  ⟨8, 0b00010100, .wt35⟩,
  ⟨8, 0b00010101, .wt36⟩,
  ⟨8, 0b00010110, .wt37⟩,
  ⟨8, 0b00010111, .wt38⟩,
  ⟨8, 0b00101000, .wt39⟩,
  ⟨8, 0b00101001, .wt40⟩,
  ⟨8, 0b00101010, .wt41⟩,
  ⟨8, 0b00101011, .wt42⟩,
  ⟨8, 0b00101100, .wt43⟩,
  ⟨8, 0b00101101, .wt44⟩,
  ⟨8, 0b00000100, .wt45⟩,
  ⟨8, 0b00000101, .wt46⟩,
  ⟨8, 0b00001010, .wt47⟩,
  ⟨8, 0b00001011, .wt48⟩,
  ⟨8, 0b01010010, .wt49⟩,
  ⟨8, 0b01010011, .wt50⟩,
  ⟨8, 0b01010100, .wt51⟩,
  ⟨8, 0b01010101, .wt52⟩,
  ⟨8, 0b00100100, .wt53⟩,
  ⟨8, 0b00100101, .wt54⟩,
  ⟨8, 0b01011000, .wt55⟩,
  ⟨8, 0b01011001, .wt56⟩,
  ⟨8, 0b01011010, .wt57⟩,
  ⟨8, 0b01011011, .wt58⟩,
  ⟨8, 0b01001010, .wt59⟩,
  ⟨8, 0b01001011, .wt60⟩,
  ⟨8, 0b00110010, .wt61⟩,
  ⟨8, 0b00110011, .wt62⟩,
  ⟨8, 0b00110100, .wt63⟩]

/-- Black terminating code words, runs 0..31 (R126). -/
def blackTermWordsLow : List CodeRow := [
  ⟨10, 0b0000110111, .bt0⟩,
  ⟨3, 0b010, .bt1⟩,
  ⟨2, 0b11, .bt2⟩,
  ⟨2, 0b10, .bt3⟩,
  ⟨3, 0b011, .bt4⟩,
  ⟨4, 0b0011, .bt5⟩,
  ⟨4, 0b0010, .bt6⟩,
  ⟨5, 0b00011, .bt7⟩,
  ⟨6, 0b000101, .bt8⟩,
  ⟨6, 0b000100, .bt9⟩,
  ⟨7, 0b0000100, .bt10⟩,
  ⟨7, 0b0000101, .bt11⟩,
  ⟨7, 0b0000111, .bt12⟩,
  ⟨8, 0b00000100, .bt13⟩,
  ⟨8, 0b00000111, .bt14⟩,
  ⟨9, 0b000011000, .bt15⟩,
  ⟨10, 0b0000010111, .bt16⟩,
  ⟨10, 0b0000011000, .bt17⟩,
  ⟨10, 0b0000001000, .bt18⟩,
  ⟨11, 0b00001100111, .bt19⟩,
  ⟨11, 0b00001101000, .bt20⟩,
  ⟨11, 0b00001101100, .bt21⟩,
  ⟨11, 0b00000110111, .bt22⟩,
  ⟨11, 0b00000101000, .bt23⟩,
  ⟨11, 0b00000010111, .bt24⟩,
  ⟨11, 0b00000011000, .bt25⟩,
  ⟨12, 0b000011001010, .bt26⟩,
  ⟨12, 0b000011001011, .bt27⟩,
  ⟨12, 0b000011001100, .bt28⟩,
  ⟨12, 0b000011001101, .bt29⟩,
  ⟨12, 0b000001101000, .bt30⟩,
  ⟨12, 0b000001101001, .bt31⟩]

/-- Black terminating code words, runs 32..63 (R126). -/
def blackTermWordsHigh : List CodeRow := [
  ⟨12, 0b000001101010, .bt32⟩,
  ⟨12, 0b000001101011, .bt33⟩,
  ⟨12, 0b000011010010, .bt34⟩,
  ⟨12, 0b000011010011, .bt35⟩,
  ⟨12, 0b000011010100, .bt36⟩,
  ⟨12, 0b000011010101, .bt37⟩,
  ⟨12, 0b000011010110, .bt38⟩,
  ⟨12, 0b000011010111, .bt39⟩,
  ⟨12, 0b000001101100, .bt40⟩,
  ⟨12, 0b000001101101, .bt41⟩,
  ⟨12, 0b000011011010, .bt42⟩,
  ⟨12, 0b000011011011, .bt43⟩,
  ⟨12, 0b000001010100, .bt44⟩,
  ⟨12, 0b000001010101, .bt45⟩,
  ⟨12, 0b000001010110, .bt46⟩,
  ⟨12, 0b000001010111, .bt47⟩,
  ⟨12, 0b000001100100, .bt48⟩,
  ⟨12, 0b000001100101, .bt49⟩,
  ⟨12, 0b000001010010, .bt50⟩,
  ⟨12, 0b000001010011, .bt51⟩,
  ⟨12, 0b000000100100, .bt52⟩,
  ⟨12, 0b000000110111, .bt53⟩,
  ⟨12, 0b000000111000, .bt54⟩,
  ⟨12, 0b000000100111, .bt55⟩,
  ⟨12, 0b000000101000, .bt56⟩,
  ⟨12, 0b000001011000, .bt57⟩,
  ⟨12, 0b000001011001, .bt58⟩,
  ⟨12, 0b000000101011, .bt59⟩,
  ⟨12, 0b000000101100, .bt60⟩,
  ⟨12, 0b000001011010, .bt61⟩,
  ⟨12, 0b000001100110, .bt62⟩,
  ⟨12, 0b000001100111, .bt63⟩]

/-- White makeup code words (R127). -/
def whiteMakeupWords : List CodeRow := [
  ⟨5, 0b11011, .wm64⟩,
  ⟨5, 0b10010, .wm128⟩,
  ⟨6, 0b010111, .wm192⟩,
  ⟨7, 0b0110111, .wm256⟩,
  ⟨8, 0b00110110, .wm320⟩,
  ⟨8, 0b00110111, .wm384⟩,
  ⟨8, 0b01100100, .wm448⟩,
  ⟨8, 0b01100101, .wm512⟩,
  ⟨8, 0b01101000, .wm576⟩,
  ⟨8, 0b01100111, .wm640⟩,
  ⟨9, 0b011001100, .wm704⟩,
  ⟨9, 0b011001101, .wm768⟩,
  ⟨9, 0b011010010, .wm832⟩,
  ⟨9, 0b011010011, .wm896⟩,
  ⟨9, 0b011010100, .wm960⟩,
  ⟨9, 0b011010101, .wm1024⟩,
  ⟨9, 0b011010110, .wm1088⟩,
  ⟨9, 0b011010111, .wm1152⟩,
  ⟨9, 0b011011000, .wm1216⟩,
  ⟨9, 0b011011001, .wm1280⟩,
  ⟨9, 0b011011010, .wm1344⟩,
  ⟨9, 0b011011011, .wm1408⟩,
  ⟨9, 0b010011000, .wm1472⟩,
  ⟨9, 0b010011001, .wm1536⟩,
  ⟨9, 0b010011010, .wm1600⟩,
  ⟨6, 0b011000, .wm1664⟩,
  ⟨9, 0b010011011, .wm1728⟩]

/-- Black makeup code words (R128). -/
def blackMakeupWords : List CodeRow := [
  ⟨10, 0b0000001111, .bm64⟩,
  ⟨12, 0b000011001000, .bm128⟩,
  ⟨12, 0b000011001001, .bm192⟩,
  ⟨12, 0b000001011011, .bm256⟩,
  ⟨12, 0b000000110011, .bm320⟩,
  ⟨12, 0b000000110100, .bm384⟩,
  ⟨12, 0b000000110101, .bm448⟩,
  ⟨13, 0b0000001101100, .bm512⟩,
  ⟨13, 0b0000001101101, .bm576⟩,
  ⟨13, 0b0000001001010, .bm640⟩,
  ⟨13, 0b0000001001011, .bm704⟩,
  ⟨13, 0b0000001001100, .bm768⟩,
  ⟨13, 0b0000001001101, .bm832⟩,
  ⟨13, 0b0000001110010, .bm896⟩,
  ⟨13, 0b0000001110011, .bm960⟩,
  ⟨13, 0b0000001110100, .bm1024⟩,
  ⟨13, 0b0000001110101, .bm1088⟩,
  ⟨13, 0b0000001110110, .bm1152⟩,
  ⟨13, 0b0000001110111, .bm1216⟩,
  ⟨13, 0b0000001010010, .bm1280⟩,
  ⟨13, 0b0000001010011, .bm1344⟩,
  ⟨13, 0b0000001010100, .bm1408⟩,
  ⟨13, 0b0000001010101, .bm1472⟩,
  ⟨13, 0b0000001011010, .bm1536⟩,
  ⟨13, 0b0000001011011, .bm1600⟩,
  ⟨13, 0b0000001100100, .bm1664⟩,
  ⟨13, 0b0000001100101, .bm1728⟩]

/-- Extended makeup code words, "shared between colors" (R129). -/
def sharedMakeupWords : List CodeRow := [
  ⟨11, 0b00000001000, .xm1792⟩,
  ⟨11, 0b00000001100, .xm1856⟩,
  ⟨11, 0b00000001101, .xm1920⟩,
  ⟨12, 0b000000010010, .xm1984⟩,
  ⟨12, 0b000000010011, .xm2048⟩,
  ⟨12, 0b000000010100, .xm2112⟩,
  ⟨12, 0b000000010101, .xm2176⟩,
  ⟨12, 0b000000010110, .xm2240⟩,
  ⟨12, 0b000000010111, .xm2304⟩,
  ⟨12, 0b000000011100, .xm2368⟩,
  ⟨12, 0b000000011101, .xm2432⟩,
  ⟨12, 0b000000011110, .xm2496⟩,
  ⟨12, 0b000000011111, .xm2560⟩]

/-- The code words read in a context (R104 a, b, c). -/
def codeWords : CodeContext → List CodeRow
  | .mode => modeWords
  | .white => whiteTermWordsLow ++ whiteTermWordsHigh ++ whiteMakeupWords ++ sharedMakeupWords
  | .black => blackTermWordsLow ++ blackTermWordsHigh ++ blackMakeupWords ++ sharedMakeupWords

/-- The row of a bit string in a list of code words: same length and same value, so the same bit string (R91). -/
def findWord (bits : List Bool) (rows : List CodeRow) : Option Instr :=
  (rows.find? fun r => r.len == bits.length && r.value == valueOf bits).map CodeRow.instr

/-- The operation a whole bit string stands for in a context. -/
def decodeCode (ctx : CodeContext) (bits : List Bool) : Option Instr :=
  findWord bits (codeWords ctx)

/-! ### Host accesses -/

/-- Host accesses that no row of the opcode table names (10_state R30 to R36, 30_encoding R102; log entry 16). -/
inductive HostAccess where
  | readWidth
  | readCtrl
  | readZero
  | ignoredWrite
  | reservedCommand
  | hardwareReset
  | resetDuring (offset : Word) (data : Word) (sent : Nat)
  | attachSink
deriving DecidableEq, Repr

/-- Why a request is no operation. -/
inductive Reject where
  /-- The bits are no code word of their context (R92 to R94, R104). -/
  | unknownCodeWord
  /-- An operand outside the operation's contract: a SCAN start below -1 (R144), a mode symbol above 8 (R121,
  R156), a makeup quotient outside 1..40 (R123). -/
  | operandOutsideContract
deriving DecidableEq, Repr

/-- What a request decodes to. -/
inductive Decoded where
  | instr (i : Instr)
  | access (a : HostAccess)
  | reject (why : Reject)
deriving DecidableEq, Repr

/-- A value written to CMD: bits 2:0 are the command code, bits 31:3 are ignored (R32, R97); 0, 5, 6, 7 are
reserved (R102). -/
def decodeCommand (data : Word) : Decoded :=
  match (data.setWidth 3).toNat with
  | 1 => .instr .init
  | 2 => .instr .row
  | 3 => .instr .eofbCmd
  | 4 => .instr .clear
  | _ => .access .reservedCommand

/-- A host write (R29, R98): WIDTH takes bits 11:0, CTRL and PIXIN take bit 0; every other offset ignores writes
(R33, R35, R36). -/
def decodeWrite (offset data : Word) : Decoded :=
  match offset.toNat with
  | 0x00 => .instr (.wrWidth (data.setWidth 12))
  | 0x04 => .instr (.wrCtrl (data.getLsbD 0))
  | 0x08 => decodeCommand data
  | 0x10 => .instr (.pix (Colour.ofBit (data.getLsbD 0)))
  | _ => .access .ignoredWrite

/-- A host read (R29): CMD and PIXIN read 0 (R32, R34), and so does every other offset (R36). -/
def decodeRead (offset : Word) : Decoded :=
  match offset.toNat with
  | 0x00 => .access .readWidth
  | 0x04 => .access .readCtrl
  | 0x0C => .instr .rdStatus
  | 0x14 => .instr .rdLoadcnt
  | _ => .access .readZero

/-- The operation of raw internal operands, before their contract is checked. -/
def InternalOp.toInstr : InternalOp → Instr
  | .scan l n s => .scan l n s
  | .rowenc => .rowenc
  | .run n c => .run n c
  | .emit s => .emit s
  | .lookupMode s => .lookupMode s
  | .lookupTerm c r => .lookupTerm c r
  | .lookupMakeup c q => .lookupMakeup c q

/-- An internal operation, rejected by name when an operand is outside its contract. -/
def decodeInternal (op : InternalOp) : Decoded :=
  if op.toInstr.wellFormed then .instr op.toInstr else .reject .operandOutsideContract

/-- The decoder. -/
def decode : Request → Decoded
  | .hostWrite offset data => decodeWrite offset data
  | .hostRead offset => decodeRead offset
  | .code ctx bits =>
    match decodeCode ctx bits with
    | some i => .instr i
    | none => .reject .unknownCodeWord
  | .sinkOp .align => .instr .align
  | .sinkOp .final => .instr .final
  | .internal op => decodeInternal op
  | .hardwareReset => .access .hardwareReset
  | .resetDuring offset data sent => .access (.resetDuring offset data sent)
  | .attachSink => .access .attachSink

/-! ### The encoder -/

/-- A code word as a request. -/
def codeRequest (ctx : CodeContext) (len value : Nat) : Request :=
  .code ctx (bitsOf len value)

/-- The request that carries an operation, from the table's own encodings (`encoding`, `match`, `fields` of
spec/opcode_table.json). An extended makeup code is written as at a white-run position (log entry 22). -/
def encode : Instr → Request
  | .p => codeRequest .mode 4 0b0001
  | .h => codeRequest .mode 3 0b001
  | .v0 => codeRequest .mode 1 0b1
  | .vr1 => codeRequest .mode 3 0b011
  | .vr2 => codeRequest .mode 6 0b000011
  | .vr3 => codeRequest .mode 7 0b0000011
  | .vl1 => codeRequest .mode 3 0b010
  | .vl2 => codeRequest .mode 6 0b000010
  | .vl3 => codeRequest .mode 7 0b0000010
  | .wt0 => codeRequest .white 8 0b00110101
  | .wt1 => codeRequest .white 6 0b000111
  | .wt2 => codeRequest .white 4 0b0111
  | .wt3 => codeRequest .white 4 0b1000
  | .wt4 => codeRequest .white 4 0b1011
  | .wt5 => codeRequest .white 4 0b1100
  | .wt6 => codeRequest .white 4 0b1110
  | .wt7 => codeRequest .white 4 0b1111
  | .wt8 => codeRequest .white 5 0b10011
  | .wt9 => codeRequest .white 5 0b10100
  | .wt10 => codeRequest .white 5 0b00111
  | .wt11 => codeRequest .white 5 0b01000
  | .wt12 => codeRequest .white 6 0b001000
  | .wt13 => codeRequest .white 6 0b000011
  | .wt14 => codeRequest .white 6 0b110100
  | .wt15 => codeRequest .white 6 0b110101
  | .wt16 => codeRequest .white 6 0b101010
  | .wt17 => codeRequest .white 6 0b101011
  | .wt18 => codeRequest .white 7 0b0100111
  | .wt19 => codeRequest .white 7 0b0001100
  | .wt20 => codeRequest .white 7 0b0001000
  | .wt21 => codeRequest .white 7 0b0010111
  | .wt22 => codeRequest .white 7 0b0000011
  | .wt23 => codeRequest .white 7 0b0000100
  | .wt24 => codeRequest .white 7 0b0101000
  | .wt25 => codeRequest .white 7 0b0101011
  | .wt26 => codeRequest .white 7 0b0010011
  | .wt27 => codeRequest .white 7 0b0100100
  | .wt28 => codeRequest .white 7 0b0011000
  | .wt29 => codeRequest .white 8 0b00000010
  | .wt30 => codeRequest .white 8 0b00000011
  | .wt31 => codeRequest .white 8 0b00011010
  | .wt32 => codeRequest .white 8 0b00011011
  | .wt33 => codeRequest .white 8 0b00010010
  | .wt34 => codeRequest .white 8 0b00010011
  | .wt35 => codeRequest .white 8 0b00010100
  | .wt36 => codeRequest .white 8 0b00010101
  | .wt37 => codeRequest .white 8 0b00010110
  | .wt38 => codeRequest .white 8 0b00010111
  | .wt39 => codeRequest .white 8 0b00101000
  | .wt40 => codeRequest .white 8 0b00101001
  | .wt41 => codeRequest .white 8 0b00101010
  | .wt42 => codeRequest .white 8 0b00101011
  | .wt43 => codeRequest .white 8 0b00101100
  | .wt44 => codeRequest .white 8 0b00101101
  | .wt45 => codeRequest .white 8 0b00000100
  | .wt46 => codeRequest .white 8 0b00000101
  | .wt47 => codeRequest .white 8 0b00001010
  | .wt48 => codeRequest .white 8 0b00001011
  | .wt49 => codeRequest .white 8 0b01010010
  | .wt50 => codeRequest .white 8 0b01010011
  | .wt51 => codeRequest .white 8 0b01010100
  | .wt52 => codeRequest .white 8 0b01010101
  | .wt53 => codeRequest .white 8 0b00100100
  | .wt54 => codeRequest .white 8 0b00100101
  | .wt55 => codeRequest .white 8 0b01011000
  | .wt56 => codeRequest .white 8 0b01011001
  | .wt57 => codeRequest .white 8 0b01011010
  | .wt58 => codeRequest .white 8 0b01011011
  | .wt59 => codeRequest .white 8 0b01001010
  | .wt60 => codeRequest .white 8 0b01001011
  | .wt61 => codeRequest .white 8 0b00110010
  | .wt62 => codeRequest .white 8 0b00110011
  | .wt63 => codeRequest .white 8 0b00110100
  | .bt0 => codeRequest .black 10 0b0000110111
  | .bt1 => codeRequest .black 3 0b010
  | .bt2 => codeRequest .black 2 0b11
  | .bt3 => codeRequest .black 2 0b10
  | .bt4 => codeRequest .black 3 0b011
  | .bt5 => codeRequest .black 4 0b0011
  | .bt6 => codeRequest .black 4 0b0010
  | .bt7 => codeRequest .black 5 0b00011
  | .bt8 => codeRequest .black 6 0b000101
  | .bt9 => codeRequest .black 6 0b000100
  | .bt10 => codeRequest .black 7 0b0000100
  | .bt11 => codeRequest .black 7 0b0000101
  | .bt12 => codeRequest .black 7 0b0000111
  | .bt13 => codeRequest .black 8 0b00000100
  | .bt14 => codeRequest .black 8 0b00000111
  | .bt15 => codeRequest .black 9 0b000011000
  | .bt16 => codeRequest .black 10 0b0000010111
  | .bt17 => codeRequest .black 10 0b0000011000
  | .bt18 => codeRequest .black 10 0b0000001000
  | .bt19 => codeRequest .black 11 0b00001100111
  | .bt20 => codeRequest .black 11 0b00001101000
  | .bt21 => codeRequest .black 11 0b00001101100
  | .bt22 => codeRequest .black 11 0b00000110111
  | .bt23 => codeRequest .black 11 0b00000101000
  | .bt24 => codeRequest .black 11 0b00000010111
  | .bt25 => codeRequest .black 11 0b00000011000
  | .bt26 => codeRequest .black 12 0b000011001010
  | .bt27 => codeRequest .black 12 0b000011001011
  | .bt28 => codeRequest .black 12 0b000011001100
  | .bt29 => codeRequest .black 12 0b000011001101
  | .bt30 => codeRequest .black 12 0b000001101000
  | .bt31 => codeRequest .black 12 0b000001101001
  | .bt32 => codeRequest .black 12 0b000001101010
  | .bt33 => codeRequest .black 12 0b000001101011
  | .bt34 => codeRequest .black 12 0b000011010010
  | .bt35 => codeRequest .black 12 0b000011010011
  | .bt36 => codeRequest .black 12 0b000011010100
  | .bt37 => codeRequest .black 12 0b000011010101
  | .bt38 => codeRequest .black 12 0b000011010110
  | .bt39 => codeRequest .black 12 0b000011010111
  | .bt40 => codeRequest .black 12 0b000001101100
  | .bt41 => codeRequest .black 12 0b000001101101
  | .bt42 => codeRequest .black 12 0b000011011010
  | .bt43 => codeRequest .black 12 0b000011011011
  | .bt44 => codeRequest .black 12 0b000001010100
  | .bt45 => codeRequest .black 12 0b000001010101
  | .bt46 => codeRequest .black 12 0b000001010110
  | .bt47 => codeRequest .black 12 0b000001010111
  | .bt48 => codeRequest .black 12 0b000001100100
  | .bt49 => codeRequest .black 12 0b000001100101
  | .bt50 => codeRequest .black 12 0b000001010010
  | .bt51 => codeRequest .black 12 0b000001010011
  | .bt52 => codeRequest .black 12 0b000000100100
  | .bt53 => codeRequest .black 12 0b000000110111
  | .bt54 => codeRequest .black 12 0b000000111000
  | .bt55 => codeRequest .black 12 0b000000100111
  | .bt56 => codeRequest .black 12 0b000000101000
  | .bt57 => codeRequest .black 12 0b000001011000
  | .bt58 => codeRequest .black 12 0b000001011001
  | .bt59 => codeRequest .black 12 0b000000101011
  | .bt60 => codeRequest .black 12 0b000000101100
  | .bt61 => codeRequest .black 12 0b000001011010
  | .bt62 => codeRequest .black 12 0b000001100110
  | .bt63 => codeRequest .black 12 0b000001100111
  | .wm64 => codeRequest .white 5 0b11011
  | .wm128 => codeRequest .white 5 0b10010
  | .wm192 => codeRequest .white 6 0b010111
  | .wm256 => codeRequest .white 7 0b0110111
  | .wm320 => codeRequest .white 8 0b00110110
  | .wm384 => codeRequest .white 8 0b00110111
  | .wm448 => codeRequest .white 8 0b01100100
  | .wm512 => codeRequest .white 8 0b01100101
  | .wm576 => codeRequest .white 8 0b01101000
  | .wm640 => codeRequest .white 8 0b01100111
  | .wm704 => codeRequest .white 9 0b011001100
  | .wm768 => codeRequest .white 9 0b011001101
  | .wm832 => codeRequest .white 9 0b011010010
  | .wm896 => codeRequest .white 9 0b011010011
  | .wm960 => codeRequest .white 9 0b011010100
  | .wm1024 => codeRequest .white 9 0b011010101
  | .wm1088 => codeRequest .white 9 0b011010110
  | .wm1152 => codeRequest .white 9 0b011010111
  | .wm1216 => codeRequest .white 9 0b011011000
  | .wm1280 => codeRequest .white 9 0b011011001
  | .wm1344 => codeRequest .white 9 0b011011010
  | .wm1408 => codeRequest .white 9 0b011011011
  | .wm1472 => codeRequest .white 9 0b010011000
  | .wm1536 => codeRequest .white 9 0b010011001
  | .wm1600 => codeRequest .white 9 0b010011010
  | .wm1664 => codeRequest .white 6 0b011000
  | .wm1728 => codeRequest .white 9 0b010011011
  | .bm64 => codeRequest .black 10 0b0000001111
  | .bm128 => codeRequest .black 12 0b000011001000
  | .bm192 => codeRequest .black 12 0b000011001001
  | .bm256 => codeRequest .black 12 0b000001011011
  | .bm320 => codeRequest .black 12 0b000000110011
  | .bm384 => codeRequest .black 12 0b000000110100
  | .bm448 => codeRequest .black 12 0b000000110101
  | .bm512 => codeRequest .black 13 0b0000001101100
  | .bm576 => codeRequest .black 13 0b0000001101101
  | .bm640 => codeRequest .black 13 0b0000001001010
  | .bm704 => codeRequest .black 13 0b0000001001011
  | .bm768 => codeRequest .black 13 0b0000001001100
  | .bm832 => codeRequest .black 13 0b0000001001101
  | .bm896 => codeRequest .black 13 0b0000001110010
  | .bm960 => codeRequest .black 13 0b0000001110011
  | .bm1024 => codeRequest .black 13 0b0000001110100
  | .bm1088 => codeRequest .black 13 0b0000001110101
  | .bm1152 => codeRequest .black 13 0b0000001110110
  | .bm1216 => codeRequest .black 13 0b0000001110111
  | .bm1280 => codeRequest .black 13 0b0000001010010
  | .bm1344 => codeRequest .black 13 0b0000001010011
  | .bm1408 => codeRequest .black 13 0b0000001010100
  | .bm1472 => codeRequest .black 13 0b0000001010101
  | .bm1536 => codeRequest .black 13 0b0000001011010
  | .bm1600 => codeRequest .black 13 0b0000001011011
  | .bm1664 => codeRequest .black 13 0b0000001100100
  | .bm1728 => codeRequest .black 13 0b0000001100101
  | .xm1792 => codeRequest .white 11 0b00000001000
  | .xm1856 => codeRequest .white 11 0b00000001100
  | .xm1920 => codeRequest .white 11 0b00000001101
  | .xm1984 => codeRequest .white 12 0b000000010010
  | .xm2048 => codeRequest .white 12 0b000000010011
  | .xm2112 => codeRequest .white 12 0b000000010100
  | .xm2176 => codeRequest .white 12 0b000000010101
  | .xm2240 => codeRequest .white 12 0b000000010110
  | .xm2304 => codeRequest .white 12 0b000000010111
  | .xm2368 => codeRequest .white 12 0b000000011100
  | .xm2432 => codeRequest .white 12 0b000000011101
  | .xm2496 => codeRequest .white 12 0b000000011110
  | .xm2560 => codeRequest .white 12 0b000000011111
  | .eofb => codeRequest .mode 24 0b000000000001000000000001
  | .align => .sinkOp .align
  | .final => .sinkOp .final
  | .init => .hostWrite 0x08 1
  | .row => .hostWrite 0x08 2
  | .eofbCmd => .hostWrite 0x08 3
  | .clear => .hostWrite 0x08 4
  | .wrWidth w => .hostWrite 0x00 (w.setWidth 32)
  | .wrCtrl ba => .hostWrite 0x04 ((BitVec.ofBool ba).setWidth 32)
  | .pix c => .hostWrite 0x10 ((BitVec.ofBool c.toBit).setWidth 32)
  | .rdStatus => .hostRead 0x0C
  | .rdLoadcnt => .hostRead 0x14
  | .scan l n s => .internal (.scan l n s)
  | .rowenc => .internal .rowenc
  | .run n c => .internal (.run n c)
  | .emit s => .internal (.emit s)
  | .lookupMode s => .internal (.lookupMode s)
  | .lookupTerm c r => .internal (.lookupTerm c r)
  | .lookupMakeup c q => .internal (.lookupMakeup c q)

/-! ### The table's unlabelled words -/

/-- The request an unlabelled table word stands for. A word alone does not say its context (R104: the bit string
`00000100` is WT45, BT13, and as a CMD value CLEAR), so one is chosen (log entry 14): the exact command values 1 to
4, then the 24-bit terminator, then a code word of exactly `nbits` bits at a mode, a white-run or a black-run
position, then, for a byte, a CMD write. -/
def requestOfTableWord (nbits w : Nat) : Request :=
  if nbits ≤ 8 ∧ 1 ≤ w ∧ w ≤ 4 then .hostWrite 0x08 (BitVec.ofNat 32 w)
  else if 24 ≤ nbits ∧ w % 2 ^ 24 = 0x001001 then codeRequest .mode 24 0x001001
  else if (decodeCode .mode (bitsOf nbits w)).isSome then codeRequest .mode nbits w
  else if (decodeCode .white (bitsOf nbits w)).isSome then codeRequest .white nbits w
  else if (decodeCode .black (bitsOf nbits w)).isSome then codeRequest .black nbits w
  else if nbits ≤ 8 then .hostWrite 0x08 (BitVec.ofNat 32 w)
  else codeRequest .mode nbits w

/-- The operation the decoder reads from a table word, if any. -/
def decodeTableWord (nbits w : Nat) : Option Instr :=
  match decode (requestOfTableWord nbits w) with
  | .instr i => some i
  | _ => none

end Sys2Proof
end

