-- ==== Sys2Proof/Machine/State.lean ====
section
/-! DEFINITION. The state of G4ENC (10_state R20), the environment's share of it, the reasons a step can stop, and
the state after reset (10_state R41). -/

namespace Sys2Proof.Machine

open Sys2Proof

/-- The sequencer phase (10_state R33, 44_page_sequencer R190). -/
inductive Phase where
  | idle
  | page
  | done
  | error
deriving DecidableEq, Repr

/-- The sticky fault record; `none` is 0, the faults are 1 to 5 (10_state R33, 60_exceptions R210). -/
inductive ErrCode where
  | none
  | sinkWriteFailure
  | malformedInput
  | configError
  | protocolError
  | runLengthRange
deriving DecidableEq, Repr

/-- A line buffer: the pixels written since its contents last became unspecified, at strictly rising indices, and
the number under which its other pixels are free values (10_state R37, R38, log entry 5). -/
structure Line where
  era : Nat
  cells : List (Nat × Colour)
deriving DecidableEq, Repr

/-- A code: a value and its length in bits (30_encoding R91); the terminator's value needs 24 bits (R94). -/
structure Code where
  value : BitVec 24
  len : Nat
deriving DecidableEq, Repr

/-- A sink transaction (20_memory R70, R71, R72). -/
inductive SinkTx where
  | writeCode (c : Code)
  | alignToByteBoundary
  | finalize
deriving DecidableEq, Repr

/-- What the sink answers: *ok*, *fail*, or nothing at all (20_memory R74, 70_reset R253, decisions D14, D21). -/
inductive SinkAnswer where
  | ok
  | fail
  | silent
deriving DecidableEq, Repr

/-- A transaction the sink answered, its number, and whether it was accepted. -/
structure SinkEvent where
  number : Nat
  tx : SinkTx
  accepted : Bool
deriving DecidableEq, Repr

/-- What an operation last returned: a host read (R198), a scan (R141) or a lookup (R121 to R123). The model's own
field (log entry 12). -/
inductive Result where
  | none
  | word (v : Word)
  | index (i : Nat)
  | code (c : Code)
deriving DecidableEq, Repr

/-- Why the machine stops. The five faults of 60_exceptions R210 are not here: taking one is a next state (R216). -/
inductive Fault where
  /-- Raised by the step of any operation that issues a sink transaction, when the sink never answers it: the block is
  stuck inside the command (70_reset R253, 93 U4). Safe: no next state is claimed. -/
  | sinkNoAnswer
deriving DecidableEq, Repr

/-- Why a step has no meaning. -/
inductive Refusal where
  /-- Raised by the dispatch for an instruction without a meaning. Safe. -/
  | notModelled (mnemonic : String)
  /-- Raised by the step for a request that decodes to no operation. Safe. -/
  | undecodable (why : Reject)
  /-- Raised by a pixel access outside `0..W-1` or outside the 2623 cells: "it must treat it as a refusal, never
  return a value" (20_memory R61, 10_state R37). Safe. -/
  | pixelOutOfRange
  /-- Raised by a scan that starts below -1: "A model must refuse such a call" (41_scanner R144). Safe. -/
  | scanStartBelowVirtual
  /-- Raised by a lookup at a reserved ROM address (30_encoding R101, 93 U9). Safe. -/
  | reservedRomAddress
  /-- Raised by a horizontal mode whose run length would be negative (43 R184, 93 U15). Safe. -/
  | negativeRunLength
deriving DecidableEq, Repr

/-- The machine's state. -/
structure State where
  -- working registers, 10_state R21 to R25
  a0 : BitVec 13
  a0c : Colour
  a1 : BitVec 12
  a2 : BitVec 12
  b1 : BitVec 12
  b2 : BitVec 12
  d : BitVec 13
  l1 : BitVec 12
  l2 : BitVec 12
  q : BitVec 6
  r : BitVec 6
  -- flags and fault record, R28
  refv : Bool
  errcode : ErrCode
  -- control and status registers, R30 to R35
  width : BitVec 12
  ba : Bool
  phase : Phase
  loadcnt : BitVec 12
  -- line buffers, R37, R38
  cur : Line
  ref : Line
  -- the sink attached to the block and its answers to come: environment, R40, 20_memory R74, R75
  sinkLog : List SinkEvent
  sinkAnswers : List SinkAnswer
  -- the host's requests to come: environment, 00_scope R6
  inbox : List Request
  -- the model's own: last returned value, transactions issued, counter of free values (log entries 4, 6, 12)
  result : Result
  txCount : Nat
  free : Nat
deriving DecidableEq, Repr

/-- The machine right after hardware reset (10_state R41, 70_reset R241). DESIGN CHOICE (log entry 3): A1, A2, B1,
B2, D, L1, L2, Q, R are 0; the spec gives them no value. -/
def State.reset : State where
  a0 := BitVec.ofInt 13 (-1)
  a0c := .white
  a1 := 0
  a2 := 0
  b1 := 0
  b2 := 0
  d := 0
  l1 := 0
  l2 := 0
  q := 0
  r := 0
  refv := false
  errcode := .none
  width := 0
  ba := false
  phase := .idle
  loadcnt := 0
  cur := ⟨0, []⟩
  ref := ⟨1, []⟩
  sinkLog := []
  sinkAnswers := []
  inbox := []
  result := .none
  txCount := 0
  free := 2

end Sys2Proof.Machine
end

