-- ==== Sys2Proof/Machine/Flags.lean ====
section
/-! DEFINITION. The status fields and the words the host reads (10_state R30 to R35). -/

namespace Sys2Proof.Machine

open Sys2Proof

/-- PHASE as it stands in STATUS bits 1:0 (R33). -/
def Phase.toBits (p : Phase) : Nat :=
  match p with
  | .idle => 0
  | .page => 1
  | .done => 2
  | .error => 3

/-- ERRCODE as it stands in STATUS bits 7:4 (R33, 60_exceptions R210). -/
def ErrCode.toBits (e : ErrCode) : Nat :=
  match e with
  | .none => 0
  | .sinkWriteFailure => 1
  | .malformedInput => 2
  | .configError => 3
  | .protocolError => 4
  | .runLengthRange => 5

/-- The word STATUS reads as: PHASE in bits 1:0, ERRCODE in bits 7:4, REFV in bit 8, every other bit 0 (R33). -/
def State.statusWord (s : State) : Word :=
  BitVec.ofNat 32 (s.phase.toBits + 16 * s.errcode.toBits + 256 * s.refv.toNat)

/-- The word LOADCNT reads as (R35). -/
def State.loadcntWord (s : State) : Word :=
  s.loadcnt.setWidth 32

/-- The word WIDTH reads as (R30). -/
def State.widthWord (s : State) : Word :=
  s.width.setWidth 32

/-- The word CTRL reads as (R31). -/
def State.ctrlWord (s : State) : Word :=
  (BitVec.ofBool s.ba).setWidth 32

end Sys2Proof.Machine
end

