-- ==== Sys2Proof/Machine/Rom.lean ====
section
/-! DEFINITION. The code-table ROM (unit CT): its 217 defined words of 17 bits, the column "ROM word" of
40_code_tables R124 to R129, laid out as 30_encoding R96 says. Configuration, not state (10_state R39). -/

namespace Sys2Proof.Machine

/-- White terminating words, 0x000..0x03F (R125). -/
def romWhiteTerm : List Nat := [
  0x10035, 0x0C007, 0x08007, 0x08008, 0x0800B, 0x0800C, 0x0800E, 0x0800F,
  0x0A013, 0x0A014, 0x0A007, 0x0A008, 0x0C008, 0x0C003, 0x0C034, 0x0C035,
  0x0C02A, 0x0C02B, 0x0E027, 0x0E00C, 0x0E008, 0x0E017, 0x0E003, 0x0E004,
  0x0E028, 0x0E02B, 0x0E013, 0x0E024, 0x0E018, 0x10002, 0x10003, 0x1001A,
  0x1001B, 0x10012, 0x10013, 0x10014, 0x10015, 0x10016, 0x10017, 0x10028,
  0x10029, 0x1002A, 0x1002B, 0x1002C, 0x1002D, 0x10004, 0x10005, 0x1000A,
  0x1000B, 0x10052, 0x10053, 0x10054, 0x10055, 0x10024, 0x10025, 0x10058,
  0x10059, 0x1005A, 0x1005B, 0x1004A, 0x1004B, 0x10032, 0x10033, 0x10034]

/-- White makeup words, 0x040..0x05A (R127). -/
def romWhiteMakeup : List Nat := [
  0x0A01B, 0x0A012, 0x0C017, 0x0E037, 0x10036, 0x10037, 0x10064, 0x10065,
  0x10068, 0x10067, 0x120CC, 0x120CD, 0x120D2, 0x120D3, 0x120D4, 0x120D5,
  0x120D6, 0x120D7, 0x120D8, 0x120D9, 0x120DA, 0x120DB, 0x12098, 0x12099,
  0x1209A, 0x0C018, 0x1209B]

/-- Black terminating words, 0x080..0x0BF (R126). -/
def romBlackTerm : List Nat := [
  0x14037, 0x06002, 0x04003, 0x04002, 0x06003, 0x08003, 0x08002, 0x0A003,
  0x0C005, 0x0C004, 0x0E004, 0x0E005, 0x0E007, 0x10004, 0x10007, 0x12018,
  0x14017, 0x14018, 0x14008, 0x16067, 0x16068, 0x1606C, 0x16037, 0x16028,
  0x16017, 0x16018, 0x180CA, 0x180CB, 0x180CC, 0x180CD, 0x18068, 0x18069,
  0x1806A, 0x1806B, 0x180D2, 0x180D3, 0x180D4, 0x180D5, 0x180D6, 0x180D7,
  0x1806C, 0x1806D, 0x180DA, 0x180DB, 0x18054, 0x18055, 0x18056, 0x18057,
  0x18064, 0x18065, 0x18052, 0x18053, 0x18024, 0x18037, 0x18038, 0x18027,
  0x18028, 0x18058, 0x18059, 0x1802B, 0x1802C, 0x1805A, 0x18066, 0x18067]

/-- Black makeup words, 0x0C0..0x0DA (R128). -/
def romBlackMakeup : List Nat := [
  0x1400F, 0x180C8, 0x180C9, 0x1805B, 0x18033, 0x18034, 0x18035, 0x1A06C,
  0x1A06D, 0x1A04A, 0x1A04B, 0x1A04C, 0x1A04D, 0x1A072, 0x1A073, 0x1A074,
  0x1A075, 0x1A076, 0x1A077, 0x1A052, 0x1A053, 0x1A054, 0x1A055, 0x1A05A,
  0x1A05B, 0x1A064, 0x1A065]

/-- Extended makeup words, at 0x05B..0x067 and again at 0x0DB..0x0E7 (R129). -/
def romSharedMakeup : List Nat := [
  0x16008, 0x1600C, 0x1600D, 0x18012, 0x18013, 0x18014, 0x18015, 0x18016,
  0x18017, 0x1801C, 0x1801D, 0x1801E, 0x1801F]

/-- Mode words, 0x100..0x108 (R124). -/
def romMode : List Nat := [
  0x08001, 0x06001, 0x02001, 0x06003, 0x0C003, 0x0E003, 0x06002, 0x0C002,
  0x0E002]

/-- The table an address selects by its bits MT, COL and MK (R96); none where MT = 1 and COL or MK is set. -/
def romTable (mt col mk : Bool) : List Nat :=
  match mt, col, mk with
  | false, false, false => romWhiteTerm
  | false, false, true => romWhiteMakeup ++ romSharedMakeup
  | false, true, false => romBlackTerm
  | false, true, true => romBlackMakeup ++ romSharedMakeup
  | true, false, false => romMode
  | true, _, _ => []

/-- The 17-bit word at a 9-bit address; a reserved address holds 0 (R95, R96, R101). -/
def romWord (addr : BitVec 9) : BitVec 17 :=
  let table := romTable (addr.getLsbD 8) (addr.getLsbD 7) (addr.getLsbD 6)
  BitVec.ofNat 17 ((table[(addr.setWidth 6).toNat]?).getD 0)

/-- A word unpacked: `len` is bits 16:13, `value` bits 12:0 (R64, R95). -/
def romCode (word : BitVec 17) : Code :=
  ⟨(word.setWidth 13).setWidth 24, (word.extractLsb' 13 4).toNat⟩

/-- `RomRead`: the pair at an address; a lookup at a reserved address, a word of length 0, is refused (R64, R101). -/
def romRead (addr : BitVec 9) : Except Refusal Code :=
  if (romCode (romWord addr)).len = 0 then .error .reservedRomAddress else .ok (romCode (romWord addr))

end Sys2Proof.Machine
end

