-- ==== Sys2Proof/Machine/Operands.lean ====
section
/-! DEFINITION. Operand assembly (30_encoding section 2): colours, ROM addresses, mode symbol numbers, and the
values of registers as the integers the rules compute with (00_scope R9). -/

namespace Sys2Proof.Machine

open Sys2Proof

/-- `opp(c) = 1 - c` (R10). -/
def opp (c : Colour) : Colour :=
  match c with
  | .white => .black
  | .black => .white

/-- `W`, the image width: bits 11:0 of WIDTH (R30, log entry 2). -/
def State.w (s : State) : Nat :=
  s.width.toNat

/-- `(c << 7)` as part of a ROM address: the bit COL (R96, R99). -/
def colourBit (c : Colour) : BitVec 9 :=
  match c with
  | .white => 0
  | .black => 1 <<< 7

/-- `0x100 | s` (R100, R121). -/
def modeAddr (sym : BitVec 6) : BitVec 9 :=
  0x100 ||| sym.setWidth 9

/-- `(c << 7) | R` (R99, R122). -/
def termAddr (c : Colour) (rem : BitVec 6) : BitVec 9 :=
  colourBit c ||| rem.setWidth 9

/-- `(c << 7) | (1 << 6) | (Q - 1)` (R99, R123). -/
def makeupAddr (c : Colour) (quot : BitVec 6) : BitVec 9 :=
  colourBit c ||| (1 <<< 6) ||| (quot - 1).setWidth 9

/-- The mode symbol number of a vertical distance: 2 for 0, `2 + D` for a positive, `5 - D` for a negative one
(R100, R155). -/
def verticalSymbol (dist : Int) : BitVec 6 :=
  if dist = 0 then 2 else if 0 < dist then BitVec.ofInt 6 (2 + dist) else BitVec.ofInt 6 (5 - dist)

/-- `D = A1 - B1` as an integer (R153). -/
def State.distance (s : State) : Int :=
  (s.a1.toNat : Int) - s.b1.toNat

end Sys2Proof.Machine
end

