-- ==== Sys2Proof/Machine/Ops.lean ====
section
/-! DEFINITION. The named operations every meaning is built from: taking a fault, what a running operation can come
to, the sink transactions, the line buffers, and what becomes unspecified. -/

namespace Sys2Proof.Machine

open Sys2Proof

/-! ### Taking a fault -/

/-- Fault entry, `raise F`: ERRCODE <- code(F), PHASE <- ERROR, and nothing else (60_exceptions R216). That nothing
after the raise is performed is `Flow.andThen`'s business. There is no return from a fault (R219). -/
def State.raise (code : ErrCode) (s : State) : State :=
  { s with errcode := code, phase := .error }

/-- What an operation in progress has come to: a state, with the mark whether a fault was raised on the way; the
machine stuck; or no meaning. -/
inductive Flow where
  | run (s : State) (raised : Bool)
  | stop (f : Fault)
  | refuse (why : Refusal)

/-- Go on with `k`, unless a fault was raised: "nothing after the `raise` in the pseudocode happens" (00_scope R11). -/
def Flow.andThen (f : Flow) (k : State → Flow) : Flow :=
  match f with
  | .run s false => k s
  | .run s true => .run s true
  | .stop e => .stop e
  | .refuse why => .refuse why

/-- Go on with a state computed by a function that may refuse. -/
def Flow.ofExcept (e : Except Refusal State) : Flow :=
  match e with
  | .ok s => .run s false
  | .error why => .refuse why

/-- The step an operation ends in. A raised fault is a next state (R216). -/
def Flow.outcome (f : Flow) : Host.Outcome State Fault Refusal :=
  match f with
  | .run s _ => .next s
  | .stop e => .fault e
  | .refuse why => .refused why

/-- In phase ERROR "the block ignores everything but CLEAR and reset" (44 R190, 60_exceptions R220; for the internal
operations and code words DEDUCED, log entry 11). -/
def unlessError (f : State → Flow) (s : State) : Host.Outcome State Fault Refusal :=
  if s.phase = .error then .next s else (f s).outcome

/-- An operation legal only while a page is open: a ProtocolError in IDLE and DONE, ignored in ERROR (44 R200). -/
def whenPage (f : State → Flow) (s : State) : Host.Outcome State Fault Refusal :=
  if s.phase = .error then .next s
  else if s.phase = .page then (f s).outcome
  else .next (s.raise .protocolError)

/-- An operation legal only while no page is open: a ProtocolError in PAGE, ignored in ERROR (44 R200). -/
def unlessPage (f : State → Flow) (s : State) : Host.Outcome State Fault Refusal :=
  if s.phase = .error then .next s
  else if s.phase = .page then .next (s.raise .protocolError)
  else (f s).outcome

/-! ### The sink -/

/-- Whether the sink accepts the next transaction; none when it never answers. The script `sinkAnswers` first, then
the free value (20_memory R74, log entries 6 and 7). -/
def State.sinkVerdict (s : State) : Option Bool :=
  match s.sinkAnswers with
  | .ok :: _ => some true
  | .fail :: _ => some false
  | .silent :: _ => none
  | [] => some (Config.sinkAnswer s.txCount)

/-- The state after the sink answered a transaction. -/
def State.record (tx : SinkTx) (accepted : Bool) (s : State) : State :=
  { s with
    sinkLog := s.sinkLog ++ [⟨s.txCount, tx, accepted⟩]
    sinkAnswers := s.sinkAnswers.tail
    txCount := s.txCount + 1 }

/-- Issue a sink transaction: on *fail*, raise SinkWriteFailure (00_scope R11, 60_exceptions R211); it is never
repeated (20_memory R67). -/
def sinkTransact (tx : SinkTx) (s : State) : Flow :=
  match s.sinkVerdict with
  | none => .stop .sinkNoAnswer
  | some accepted =>
    .run (if accepted then s.record tx true else (s.record tx false).raise .sinkWriteFailure) (!accepted)

/-- `SinkCode(value, len)` (R11). -/
def sinkCode (c : Code) (s : State) : Flow :=
  sinkTransact (.writeCode c) s

/-- `SinkAlign()` (R11). -/
def sinkAlign (s : State) : Flow :=
  sinkTransact .alignToByteBoundary s

/-- `SinkFinalize()` (R11). -/
def sinkFinalize (s : State) : Flow :=
  sinkTransact .finalize s

/-- The terminator `(0x001001, 24)`, held by the sequencer and not in the ROM (40_code_tables R130). -/
def eofbCode : Code :=
  ⟨0x001001, 24⟩

/-! ### Line buffers -/

/-- The colour stored at an index, if one is. -/
def storedAt : List (Nat × Colour) → Nat → Option Colour
  | [], _ => none
  | (k, c) :: rest, i => if k = i then some c else storedAt rest i

/-- The cells after a write, still at strictly rising indices. -/
def storeAt : List (Nat × Colour) → Nat → Colour → List (Nat × Colour)
  | [], i, c => [(i, c)]
  | (k, d) :: rest, i, c =>
    if i < k then (i, c) :: (k, d) :: rest
    else if i = k then (i, c) :: rest
    else (k, d) :: storeAt rest i c

/-- The colour of pixel `i`: the stored one, else the free value (log entry 5). -/
def Line.pixel (l : Line) (i : Nat) : Colour :=
  (storedAt l.cells i).getD (Config.freePixel l.era i)

/-- The line after a pixel write. -/
def Line.write (l : Line) (i : Nat) (c : Colour) : Line :=
  { l with cells := storeAt l.cells i c }

/-- The canonical form: indices strictly rising, and inside the 2623 cells of the buffer (R37). An unlisted pixel
reads as no stored value, so no listed entry can repeat one. -/
def Line.wf (l : Line) : Bool :=
  decide (l.cells.Pairwise fun a b => a.1 < b.1) && l.cells.all fun a => decide (a.1 < Config.wMax)

/-- The line buffer of a name. -/
def State.buffer (s : State) (l : Buffer) : Line :=
  match l with
  | .cur => s.cur
  | .ref => s.ref

/-- `CUR[i]` or `REF[i]`: refused outside `0..W-1` (20_memory R61) and outside the buffer's cells (R37). -/
def readPixel (l : Buffer) (i : Nat) (s : State) : Except Refusal Colour :=
  if i < s.w ∧ i < Config.wMax then .ok ((s.buffer l).pixel i) else .error .pixelOutOfRange

/-! ### What becomes unspecified -/

/-- The contents of CUR become unspecified (R37). -/
def State.forgetCur (s : State) : State :=
  { s with cur := ⟨s.free, []⟩, free := s.free + 1 }

/-- The contents of REF become unspecified (R38). -/
def State.forgetRef (s : State) : State :=
  { s with ref := ⟨s.free, []⟩, free := s.free + 1 }

/-- The temporaries become unspecified (R26, R41, 93 U7, log entry 4). -/
def State.forgetTemps (s : State) : State :=
  { s with
    a1 := Config.freeReg 12 s.free 0
    a2 := Config.freeReg 12 s.free 1
    b1 := Config.freeReg 12 s.free 2
    b2 := Config.freeReg 12 s.free 3
    d := Config.freeReg 13 s.free 4
    l1 := Config.freeReg 12 s.free 5
    l2 := Config.freeReg 12 s.free 6
    q := Config.freeReg 6 s.free 7
    r := Config.freeReg 6 s.free 8
    free := s.free + 1 }

/-- Return a value to the host or to the tester of an internal operation (log entry 12). -/
def State.give (v : Result) (s : State) : State :=
  { s with result := v }

end Sys2Proof.Machine
end

