-- ==== Sys2Proof/Machine/RunLength.lean ====
section
/-! DEFINITION. Lookups (unit CT, 40_code_tables R121 to R123) and the run-length emitter (unit RLE,
43_run_length_emitter). -/

namespace Sys2Proof.Machine

open Sys2Proof

/-- Look an address up and send the code found there. -/
def sendFrom (addr : BitVec 9) (s : State) : Flow :=
  match romRead addr with
  | .error why => .refuse why
  | .ok c => sinkCode c s

/-- The terminating step: `(v, l) <- LOOKUP_TERM(c, R); SinkCode(v, l)` (R183). -/
def sendTerm (c : Colour) (rem : BitVec 6) (s : State) : Flow :=
  sendFrom (termAddr c rem) s

/-- The makeup step: `(v, l) <- LOOKUP_MAKEUP(c, Q); SinkCode(v, l)` (R182). -/
def sendMakeup (c : Colour) (quot : BitVec 6) (s : State) : Flow :=
  sendFrom (makeupAddr c quot) s

/-- `Q <- n div 64; R <- n mod 64` (R181). -/
def State.splitRun (n : Nat) (s : State) : State :=
  { s with q := BitVec.ofNat 6 (n / 64), r := BitVec.ofNat 6 (n % 64) }

/-- The part of RUN before the terminating step: nothing for `Q = 0`; RunLengthRange for `Q > 40`, before anything is
sent (R184); else the makeup step. -/
def runMakeup (n : Nat) (c : Colour) (s : State) : Flow :=
  if n / 64 = 0 then .run s false
  else if Config.qMax < n / 64 then .run (s.raise .runLengthRange) true
  else sendMakeup c s.q s

/-- `RUN(n, c)` (R181): the terminating code is always sent (R183). -/
def runLength (n : Nat) (c : Colour) (s : State) : Flow :=
  (runMakeup n c (s.splitRun n)).andThen fun t => sendTerm c t.r t

end Sys2Proof.Machine
end

