-- ==== Sys2Proof/Machine/Scanner.lean ====
section
/-! DEFINITION. The changing-element scanner, unit CES (41_scanner). -/

namespace Sys2Proof.Machine

open Sys2Proof

/-- The loop of SCAN: from index `i`, at most `todo` pixels on, the first pixel whose colour is not `c`, or the index
after the last one (R141). -/
def scanLoop (l : Buffer) (c : Colour) (s : State) : (todo i : Nat) → Except Refusal Nat
  | 0, i => .ok i
  | todo + 1, i =>
    match readPixel l i s with
    | .error why => .error why
    | .ok found => if found = c then scanLoop l c s todo (i + 1) else .ok i

/-- `SCAN(L, n, s)` (R141); a start below -1 is refused (R144). -/
def scanLine (l : Buffer) (n : Nat) (start : Int) (s : State) : Except Refusal Nat :=
  if start < -1 then .error .scanStartBelowVirtual
  else if (n : Int) ≤ start then .ok n
  else if start = -1 then scanLoop l .white s n 0
  else
    match readPixel l start.toNat s with
    | .error why => .error why
    | .ok c => scanLoop l c s (n - start.toNat) start.toNat

end Sys2Proof.Machine
end

