-- ==== Sys2Proof/Machine/LineEncoder.lean ====
section
/-! DEFINITION. The mode selector and line encoder, unit MS (42_mode_selector). One row encoder serves every row
(70_reset R252). -/

namespace Sys2Proof.Machine

open Sys2Proof

/-- `EMIT(s)`: look the mode symbol up and send its code; every emission site can fail (R156, R250). -/
def emitSymbol (sym : BitVec 6) (s : State) : Flow :=
  sendFrom (modeAddr sym) s

/-! ### Detection -/

/-- Step 1: `A1 <- SCAN(CUR, W, A0)` (R151). -/
def detectA1 (s : State) : Flow :=
  .ofExcept ((scanLine .cur s.w s.a0.toInt s).map fun j => { s with a1 := BitVec.ofNat 12 j })

/-- The position from which B1 is taken: the first change of REF right of A0, or the next one where that has the
wrong colour (R152). -/
def findB1 (s : State) : Except Refusal Nat :=
  match scanLine .ref s.w s.a0.toInt s with
  | .error why => .error why
  | .ok j =>
    if j = s.w then .ok j
    else
      match readPixel .ref j s with
      | .error why => .error why
      | .ok c => if c = opp s.a0c then .ok j else scanLine .ref s.w j s

/-- Step 2: B1 and B2; both `W` while there is no usable reference (R152). -/
def detectB (s : State) : Flow :=
  if s.refv = false then .run { s with b1 := s.width, b2 := s.width } false
  else
    match findB1 s with
    | .error why => .refuse why
    | .ok j =>
      match scanLine .ref s.w j s with
      | .error why => .refuse why
      | .ok k => .run { s with b1 := BitVec.ofNat 12 j, b2 := BitVec.ofNat 12 k } false

/-! ### The modes -/

/-- Pass mode (R154). -/
def passMode (s : State) : Flow :=
  (emitSymbol 0 s).andThen fun t => .run { t with a0 := t.b2.setWidth 13 } false

/-- Vertical mode with symbol number `sym` (R155, R157 to R163). -/
def verticalMode (sym : BitVec 6) (s : State) : Flow :=
  (emitSymbol sym s).andThen fun t => .run { t with a0 := t.a1.setWidth 13, a0c := opp t.a0c } false

/-- `L1 = A1 - A0 - ((A0 == -1) ? 1 : 0)`, exactly (R164). -/
def State.firstRun (s : State) : Int :=
  (s.a1.toNat : Int) - s.a0.toInt - (if s.a0.toInt = -1 then 1 else 0)

/-- `L2 = A2 - A1`, exactly (R164). -/
def State.secondRun (s : State) : Int :=
  (s.a2.toNat : Int) - s.a1.toNat

/-- The statement `A2 <- SCAN(CUR, W, A1)` and the two run lengths; a negative one is outside RUN's contract (R164,
R184). -/
def measureRuns (s : State) : Flow :=
  match scanLine .cur s.w s.a1.toNat s with
  | .error why => .refuse why
  | .ok j =>
    let t : State := { s with a2 := BitVec.ofNat 12 j }
    if t.firstRun < 0 ∨ t.secondRun < 0 then .refuse .negativeRunLength
    else .run { t with l1 := BitVec.ofInt 12 t.firstRun, l2 := BitVec.ofInt 12 t.secondRun } false

/-- The two runs and `A0 <- A2` (R164). -/
def sendRuns (s : State) : Flow :=
  (runLength s.firstRun.toNat s.a0c s).andThen fun t =>
    (runLength t.secondRun.toNat (opp t.a0c) t).andThen fun u =>
      .run { u with a0 := u.a2.setWidth 13 } false

/-- Horizontal mode (R164). -/
def horizontalMode (s : State) : Flow :=
  ((emitSymbol 1 s).andThen measureRuns).andThen sendRuns

/-! ### The row loop -/

/-- The three modes (R153). -/
inductive ModeChoice where
  | pass
  | vertical
  | horizontal
deriving DecidableEq, Repr

/-- The mode decision on the detected elements, in priority order (R153). -/
def chooseMode (s : State) : ModeChoice :=
  if s.b2.toNat < s.a1.toNat then .pass
  else if -(Config.vMax : Int) ≤ s.distance ∧ s.distance ≤ Config.vMax then .vertical
  else .horizontal

/-- Steps 3 to 5: D is written unless pass mode is taken (R153). -/
def performMode (s : State) : Flow :=
  match chooseMode s with
  | .pass => passMode s
  | .vertical => verticalMode (verticalSymbol s.distance) { s with d := BitVec.ofInt 13 s.distance }
  | .horizontal => horizontalMode { s with d := BitVec.ofInt 13 s.distance }

/-- One iteration of the row loop (R150). Between iterations the temporaries are unspecified (R26, 93 U7). -/
def rowIteration (s : State) : Flow :=
  (((detectA1 s).andThen detectB).andThen performMode).andThen fun t => .run t.forgetTemps false

/-- The loop `while A0 < W`, for at most `bound` iterations (R150). -/
def rowLoop : (bound : Nat) → State → Flow
  | 0, s => .run s false
  | bound + 1, s =>
    if s.a0.toInt < s.w then (rowIteration s).andThen (rowLoop bound) else .run s false

/-- `A0 <- -1; A0C <- WHITE` (R150). -/
def State.startRow (s : State) : State :=
  { s with a0 := BitVec.ofInt 13 (-1), a0c := .white }

/-- ROWENC (R150). DEDUCED (log entry 20): "at most `W + 1` iterations" (R169), so the bound never cuts the loop. -/
def encodeRow (s : State) : Flow :=
  rowLoop (s.w + 1) s.startRow

end Sys2Proof.Machine
end

