-- ==== Sys2Proof/Machine/HostOps.lean ====
section
/-! DEFINITION. The page sequencer, unit SEQ: the host operations (44_page_sequencer). -/

namespace Sys2Proof.Machine

open Sys2Proof

/-- `WR_WIDTH(w)` (R191). -/
def execWrWidth (w : BitVec 12) (s : State) : Host.Outcome State Fault Refusal :=
  unlessPage (fun t => .run { t with width := w } false) s

/-- `WR_CTRL(ba)` (R191). -/
def execWrCtrl (ba : Bool) (s : State) : Host.Outcome State Fault Refusal :=
  unlessPage (fun t => .run { t with ba := ba } false) s

/-- The body of INIT after its phase check: the width check, then the page is opened (R192, R213). CUR, and REF
because REFV is 0, are unspecified from here on (R37, R38). -/
def openPage (s : State) : Flow :=
  if s.w < 1 ∨ Config.wMax < s.w then .run (s.raise .configError) true
  else .run { s with refv := false, loadcnt := 0, phase := .page }.forgetCur.forgetRef false

/-- `INIT` (R192). -/
def execInit (s : State) : Host.Outcome State Fault Refusal :=
  unlessPage openPage s

/-- The body of PIX after its phase check (R193). -/
def pushPixel (c : Colour) (s : State) : Flow :=
  if s.w ≤ s.loadcnt.toNat then .run (s.raise .malformedInput) true
  else if Config.wMax ≤ s.loadcnt.toNat then .refuse .pixelOutOfRange
  else .run { s with cur := s.cur.write s.loadcnt.toNat c, loadcnt := s.loadcnt + 1 } false

/-- `PIX(c)` (R193). -/
def execPix (c : Colour) (s : State) : Host.Outcome State Fault Refusal :=
  whenPage (pushPixel c) s

/-- The reference update of a successful row: REF takes all of CUR at once, REFV <- 1, LOADCNT <- 0; CUR is
unspecified afterwards (R194, 20_memory R63, 10_state R37, log entry 21). -/
def State.adoptRow (s : State) : State :=
  { s with ref := s.cur, refv := true, loadcnt := 0 }.forgetCur

/-- ALIGN as the last step of ROW, when BA = 1 and at no other time (R195). -/
def alignIfAsked (s : State) : Flow :=
  if s.ba then sinkAlign s else .run s false

/-- The body of ROW after its phase check (R194). -/
def codeRow (s : State) : Flow :=
  if s.loadcnt.toNat ≠ s.w then .run (s.raise .malformedInput) true
  else ((encodeRow s).andThen fun t => .run t.adoptRow false).andThen alignIfAsked

/-- `ROW` (R194). -/
def execRow (s : State) : Host.Outcome State Fault Refusal :=
  whenPage codeRow s

/-- The body of EOFB after its phase check (R196). -/
def closePage (s : State) : Flow :=
  if s.loadcnt.toNat ≠ 0 then .run (s.raise .malformedInput) true
  else ((sinkCode eofbCode s).andThen sinkFinalize).andThen fun t => .run { t with phase := .done } false

/-- The command `EOFB` (R196). -/
def execEofbCmd (s : State) : Host.Outcome State Fault Refusal :=
  whenPage closePage s

/-- CLEAR's effect (R197). After it CUR, REF and the temporaries are unspecified (10_state R37, R38, R41). -/
def State.cleared (s : State) : State :=
  { s with phase := .idle, errcode := .none, refv := false, loadcnt := 0 }.forgetCur.forgetRef.forgetTemps

/-- `CLEAR`, legal in every phase (R197). -/
def execClear (s : State) : Host.Outcome State Fault Refusal :=
  .next s.cleared

/-- `RD_STATUS` (R198, 10_state R33). -/
def execRdStatus (s : State) : Host.Outcome State Fault Refusal :=
  .next (s.give (.word s.statusWord))

/-- `RD_LOADCNT` (R198, 10_state R35). -/
def execRdLoadcnt (s : State) : Host.Outcome State Fault Refusal :=
  .next (s.give (.word s.loadcntWord))

end Sys2Proof.Machine
end

