-- ==== Sys2Proof/Machine/Internal.lean ====
section
/-! DEFINITION. The internal operations as operations of their own (30_encoding R107, log entry 10). -/

namespace Sys2Proof.Machine

open Sys2Proof

/-- A result handed out, or the refusal that stands in its place. -/
def giveOr (e : Except Refusal Result) (s : State) : Host.Outcome State Fault Refusal :=
  match e with
  | .ok v => .next (s.give v)
  | .error why => .refused why

/-- `SCAN(L, n, s)` (41_scanner R141). -/
def execScan (l : Buffer) (n : BitVec 12) (start : BitVec 13) (s : State) : Host.Outcome State Fault Refusal :=
  giveOr ((scanLine l n.toNat start.toInt s).map .index) s

/-- `ROWENC` (42_mode_selector R150). -/
def execRowenc (s : State) : Host.Outcome State Fault Refusal :=
  unlessError encodeRow s

/-- `RUN(n, c)` (43_run_length_emitter R181). -/
def execRun (n : BitVec 12) (c : Colour) (s : State) : Host.Outcome State Fault Refusal :=
  unlessError (runLength n.toNat c) s

/-- `EMIT(s)` (42_mode_selector R156). -/
def execEmit (sym : BitVec 6) (s : State) : Host.Outcome State Fault Refusal :=
  unlessError (emitSymbol sym) s

/-- `LOOKUP_MODE(s)` (40_code_tables R121). -/
def execLookupMode (sym : BitVec 6) (s : State) : Host.Outcome State Fault Refusal :=
  giveOr ((romRead (modeAddr sym)).map .code) s

/-- `LOOKUP_TERM(c, r)` (40_code_tables R122). -/
def execLookupTerm (c : Colour) (rem : BitVec 6) (s : State) : Host.Outcome State Fault Refusal :=
  giveOr ((romRead (termAddr c rem)).map .code) s

/-- `LOOKUP_MAKEUP(c, q)` (40_code_tables R123). -/
def execLookupMakeup (c : Colour) (quot : BitVec 6) (s : State) : Host.Outcome State Fault Refusal :=
  giveOr ((romRead (makeupAddr c quot)).map .code) s

end Sys2Proof.Machine
end

