-- ==== Sys2Proof/Machine/MakeupCodes.lean ====
section
/-! DEFINITION. The 54 makeup codes and the 13 extended makeup codes: each sends one code word, looked up in a
makeup table at Q - 1 (43_run_length_emitter R182, 40_code_tables R123, R127 to R129). -/

namespace Sys2Proof.Machine

/-- `WM64`: the makeup step for Q = 1 (R182, R127). -/
def execWm64 (s : State) : Host.Outcome State Fault Refusal :=
  unlessError (sendMakeup .white 1) s

/-- `WM128`: the makeup step for Q = 2 (R182, R127). -/
def execWm128 (s : State) : Host.Outcome State Fault Refusal :=
  unlessError (sendMakeup .white 2) s

/-- `WM192`: the makeup step for Q = 3 (R182, R127). -/
def execWm192 (s : State) : Host.Outcome State Fault Refusal :=
  unlessError (sendMakeup .white 3) s

/-- `WM256`: the makeup step for Q = 4 (R182, R127). -/
def execWm256 (s : State) : Host.Outcome State Fault Refusal :=
  unlessError (sendMakeup .white 4) s

/-- `WM320`: the makeup step for Q = 5 (R182, R127). -/
def execWm320 (s : State) : Host.Outcome State Fault Refusal :=
  unlessError (sendMakeup .white 5) s

/-- `WM384`: the makeup step for Q = 6 (R182, R127). -/
def execWm384 (s : State) : Host.Outcome State Fault Refusal :=
  unlessError (sendMakeup .white 6) s

/-- `WM448`: the makeup step for Q = 7 (R182, R127). -/
def execWm448 (s : State) : Host.Outcome State Fault Refusal :=
  unlessError (sendMakeup .white 7) s

/-- `WM512`: the makeup step for Q = 8 (R182, R127). -/
def execWm512 (s : State) : Host.Outcome State Fault Refusal :=
  unlessError (sendMakeup .white 8) s

/-- `WM576`: the makeup step for Q = 9 (R182, R127). -/
def execWm576 (s : State) : Host.Outcome State Fault Refusal :=
  unlessError (sendMakeup .white 9) s

/-- `WM640`: the makeup step for Q = 10 (R182, R127). -/
def execWm640 (s : State) : Host.Outcome State Fault Refusal :=
  unlessError (sendMakeup .white 10) s

/-- `WM704`: the makeup step for Q = 11 (R182, R127). -/
def execWm704 (s : State) : Host.Outcome State Fault Refusal :=
  unlessError (sendMakeup .white 11) s

/-- `WM768`: the makeup step for Q = 12 (R182, R127). -/
def execWm768 (s : State) : Host.Outcome State Fault Refusal :=
  unlessError (sendMakeup .white 12) s

/-- `WM832`: the makeup step for Q = 13 (R182, R127). -/
def execWm832 (s : State) : Host.Outcome State Fault Refusal :=
  unlessError (sendMakeup .white 13) s

/-- `WM896`: the makeup step for Q = 14 (R182, R127). -/
def execWm896 (s : State) : Host.Outcome State Fault Refusal :=
  unlessError (sendMakeup .white 14) s

/-- `WM960`: the makeup step for Q = 15 (R182, R127). -/
def execWm960 (s : State) : Host.Outcome State Fault Refusal :=
  unlessError (sendMakeup .white 15) s

/-- `WM1024`: the makeup step for Q = 16 (R182, R127). -/
def execWm1024 (s : State) : Host.Outcome State Fault Refusal :=
  unlessError (sendMakeup .white 16) s

/-- `WM1088`: the makeup step for Q = 17 (R182, R127). -/
def execWm1088 (s : State) : Host.Outcome State Fault Refusal :=
  unlessError (sendMakeup .white 17) s

/-- `WM1152`: the makeup step for Q = 18 (R182, R127). -/
def execWm1152 (s : State) : Host.Outcome State Fault Refusal :=
  unlessError (sendMakeup .white 18) s

/-- `WM1216`: the makeup step for Q = 19 (R182, R127). -/
def execWm1216 (s : State) : Host.Outcome State Fault Refusal :=
  unlessError (sendMakeup .white 19) s

/-- `WM1280`: the makeup step for Q = 20 (R182, R127). -/
def execWm1280 (s : State) : Host.Outcome State Fault Refusal :=
  unlessError (sendMakeup .white 20) s

/-- `WM1344`: the makeup step for Q = 21 (R182, R127). -/
def execWm1344 (s : State) : Host.Outcome State Fault Refusal :=
  unlessError (sendMakeup .white 21) s

/-- `WM1408`: the makeup step for Q = 22 (R182, R127). -/
def execWm1408 (s : State) : Host.Outcome State Fault Refusal :=
  unlessError (sendMakeup .white 22) s

/-- `WM1472`: the makeup step for Q = 23 (R182, R127). -/
def execWm1472 (s : State) : Host.Outcome State Fault Refusal :=
  unlessError (sendMakeup .white 23) s

/-- `WM1536`: the makeup step for Q = 24 (R182, R127). -/
def execWm1536 (s : State) : Host.Outcome State Fault Refusal :=
  unlessError (sendMakeup .white 24) s

/-- `WM1600`: the makeup step for Q = 25 (R182, R127). -/
def execWm1600 (s : State) : Host.Outcome State Fault Refusal :=
  unlessError (sendMakeup .white 25) s

/-- `WM1664`: the makeup step for Q = 26 (R182, R127). -/
def execWm1664 (s : State) : Host.Outcome State Fault Refusal :=
  unlessError (sendMakeup .white 26) s

/-- `WM1728`: the makeup step for Q = 27 (R182, R127). -/
def execWm1728 (s : State) : Host.Outcome State Fault Refusal :=
  unlessError (sendMakeup .white 27) s

/-- `BM64`: the makeup step for Q = 1 (R182, R128). -/
def execBm64 (s : State) : Host.Outcome State Fault Refusal :=
  unlessError (sendMakeup .black 1) s

/-- `BM128`: the makeup step for Q = 2 (R182, R128). -/
def execBm128 (s : State) : Host.Outcome State Fault Refusal :=
  unlessError (sendMakeup .black 2) s

/-- `BM192`: the makeup step for Q = 3 (R182, R128). -/
def execBm192 (s : State) : Host.Outcome State Fault Refusal :=
  unlessError (sendMakeup .black 3) s

/-- `BM256`: the makeup step for Q = 4 (R182, R128). -/
def execBm256 (s : State) : Host.Outcome State Fault Refusal :=
  unlessError (sendMakeup .black 4) s

/-- `BM320`: the makeup step for Q = 5 (R182, R128). -/
def execBm320 (s : State) : Host.Outcome State Fault Refusal :=
  unlessError (sendMakeup .black 5) s

/-- `BM384`: the makeup step for Q = 6 (R182, R128). -/
def execBm384 (s : State) : Host.Outcome State Fault Refusal :=
  unlessError (sendMakeup .black 6) s

/-- `BM448`: the makeup step for Q = 7 (R182, R128). -/
def execBm448 (s : State) : Host.Outcome State Fault Refusal :=
  unlessError (sendMakeup .black 7) s

/-- `BM512`: the makeup step for Q = 8 (R182, R128). -/
def execBm512 (s : State) : Host.Outcome State Fault Refusal :=
  unlessError (sendMakeup .black 8) s

/-- `BM576`: the makeup step for Q = 9 (R182, R128). -/
def execBm576 (s : State) : Host.Outcome State Fault Refusal :=
  unlessError (sendMakeup .black 9) s

/-- `BM640`: the makeup step for Q = 10 (R182, R128). -/
def execBm640 (s : State) : Host.Outcome State Fault Refusal :=
  unlessError (sendMakeup .black 10) s

/-- `BM704`: the makeup step for Q = 11 (R182, R128). -/
def execBm704 (s : State) : Host.Outcome State Fault Refusal :=
  unlessError (sendMakeup .black 11) s

/-- `BM768`: the makeup step for Q = 12 (R182, R128). -/
def execBm768 (s : State) : Host.Outcome State Fault Refusal :=
  unlessError (sendMakeup .black 12) s

/-- `BM832`: the makeup step for Q = 13 (R182, R128). -/
def execBm832 (s : State) : Host.Outcome State Fault Refusal :=
  unlessError (sendMakeup .black 13) s

/-- `BM896`: the makeup step for Q = 14 (R182, R128). -/
def execBm896 (s : State) : Host.Outcome State Fault Refusal :=
  unlessError (sendMakeup .black 14) s

/-- `BM960`: the makeup step for Q = 15 (R182, R128). -/
def execBm960 (s : State) : Host.Outcome State Fault Refusal :=
  unlessError (sendMakeup .black 15) s

/-- `BM1024`: the makeup step for Q = 16 (R182, R128). -/
def execBm1024 (s : State) : Host.Outcome State Fault Refusal :=
  unlessError (sendMakeup .black 16) s

/-- `BM1088`: the makeup step for Q = 17 (R182, R128). -/
def execBm1088 (s : State) : Host.Outcome State Fault Refusal :=
  unlessError (sendMakeup .black 17) s

/-- `BM1152`: the makeup step for Q = 18 (R182, R128). -/
def execBm1152 (s : State) : Host.Outcome State Fault Refusal :=
  unlessError (sendMakeup .black 18) s

/-- `BM1216`: the makeup step for Q = 19 (R182, R128). -/
def execBm1216 (s : State) : Host.Outcome State Fault Refusal :=
  unlessError (sendMakeup .black 19) s

/-- `BM1280`: the makeup step for Q = 20 (R182, R128). -/
def execBm1280 (s : State) : Host.Outcome State Fault Refusal :=
  unlessError (sendMakeup .black 20) s

/-- `BM1344`: the makeup step for Q = 21 (R182, R128). -/
def execBm1344 (s : State) : Host.Outcome State Fault Refusal :=
  unlessError (sendMakeup .black 21) s

/-- `BM1408`: the makeup step for Q = 22 (R182, R128). -/
def execBm1408 (s : State) : Host.Outcome State Fault Refusal :=
  unlessError (sendMakeup .black 22) s

/-- `BM1472`: the makeup step for Q = 23 (R182, R128). -/
def execBm1472 (s : State) : Host.Outcome State Fault Refusal :=
  unlessError (sendMakeup .black 23) s

/-- `BM1536`: the makeup step for Q = 24 (R182, R128). -/
def execBm1536 (s : State) : Host.Outcome State Fault Refusal :=
  unlessError (sendMakeup .black 24) s

/-- `BM1600`: the makeup step for Q = 25 (R182, R128). -/
def execBm1600 (s : State) : Host.Outcome State Fault Refusal :=
  unlessError (sendMakeup .black 25) s

/-- `BM1664`: the makeup step for Q = 26 (R182, R128). -/
def execBm1664 (s : State) : Host.Outcome State Fault Refusal :=
  unlessError (sendMakeup .black 26) s

/-- `BM1728`: the makeup step for Q = 27 (R182, R128). -/
def execBm1728 (s : State) : Host.Outcome State Fault Refusal :=
  unlessError (sendMakeup .black 27) s

/-- `XM1792`: the makeup step for Q = 28 (R182, R129). Both colours hold the same word; the white copy is read (log entry 22). -/
def execXm1792 (s : State) : Host.Outcome State Fault Refusal :=
  unlessError (sendMakeup .white 28) s

/-- `XM1856`: the makeup step for Q = 29 (R182, R129). Both colours hold the same word; the white copy is read (log entry 22). -/
def execXm1856 (s : State) : Host.Outcome State Fault Refusal :=
  unlessError (sendMakeup .white 29) s

/-- `XM1920`: the makeup step for Q = 30 (R182, R129). Both colours hold the same word; the white copy is read (log entry 22). -/
def execXm1920 (s : State) : Host.Outcome State Fault Refusal :=
  unlessError (sendMakeup .white 30) s

/-- `XM1984`: the makeup step for Q = 31 (R182, R129). Both colours hold the same word; the white copy is read (log entry 22). -/
def execXm1984 (s : State) : Host.Outcome State Fault Refusal :=
  unlessError (sendMakeup .white 31) s

/-- `XM2048`: the makeup step for Q = 32 (R182, R129). Both colours hold the same word; the white copy is read (log entry 22). -/
def execXm2048 (s : State) : Host.Outcome State Fault Refusal :=
  unlessError (sendMakeup .white 32) s

/-- `XM2112`: the makeup step for Q = 33 (R182, R129). Both colours hold the same word; the white copy is read (log entry 22). -/
def execXm2112 (s : State) : Host.Outcome State Fault Refusal :=
  unlessError (sendMakeup .white 33) s

/-- `XM2176`: the makeup step for Q = 34 (R182, R129). Both colours hold the same word; the white copy is read (log entry 22). -/
def execXm2176 (s : State) : Host.Outcome State Fault Refusal :=
  unlessError (sendMakeup .white 34) s

/-- `XM2240`: the makeup step for Q = 35 (R182, R129). Both colours hold the same word; the white copy is read (log entry 22). -/
def execXm2240 (s : State) : Host.Outcome State Fault Refusal :=
  unlessError (sendMakeup .white 35) s

/-- `XM2304`: the makeup step for Q = 36 (R182, R129). Both colours hold the same word; the white copy is read (log entry 22). -/
def execXm2304 (s : State) : Host.Outcome State Fault Refusal :=
  unlessError (sendMakeup .white 36) s

/-- `XM2368`: the makeup step for Q = 37 (R182, R129). Both colours hold the same word; the white copy is read (log entry 22). -/
def execXm2368 (s : State) : Host.Outcome State Fault Refusal :=
  unlessError (sendMakeup .white 37) s

/-- `XM2432`: the makeup step for Q = 38 (R182, R129). Both colours hold the same word; the white copy is read (log entry 22). -/
def execXm2432 (s : State) : Host.Outcome State Fault Refusal :=
  unlessError (sendMakeup .white 38) s

/-- `XM2496`: the makeup step for Q = 39 (R182, R129). Both colours hold the same word; the white copy is read (log entry 22). -/
def execXm2496 (s : State) : Host.Outcome State Fault Refusal :=
  unlessError (sendMakeup .white 39) s

/-- `XM2560`: the makeup step for Q = 40 (R182, R129). Both colours hold the same word; the white copy is read (log entry 22). -/
def execXm2560 (s : State) : Host.Outcome State Fault Refusal :=
  unlessError (sendMakeup .white 40) s

end Sys2Proof.Machine
end

