-- ==== Sys2Proof/Machine/ModeCodes.lean ====
section
/-! DEFINITION. The nine mode operations, each the code word of its symbol and then its update of the coding position
(42_mode_selector R154 to R164). The condition that selects a mode is the row loop's (R153, log entry 10). -/

namespace Sys2Proof.Machine

/-- `P`: EMIT(0), then A0 <- B2; A0C unchanged (R154). -/
def execP (s : State) : Host.Outcome State Fault Refusal :=
  unlessError passMode s

/-- `H`: EMIT(1), A2, the two runs, A0 <- A2; A0C unchanged (R164). -/
def execH (s : State) : Host.Outcome State Fault Refusal :=
  unlessError horizontalMode s

/-- `V0`: EMIT(2), A0 <- A1, A0C flipped (R157, R155). -/
def execV0 (s : State) : Host.Outcome State Fault Refusal :=
  unlessError (verticalMode 2) s

/-- `VR1`: EMIT(3), A0 <- A1, A0C flipped (R158, R155). -/
def execVr1 (s : State) : Host.Outcome State Fault Refusal :=
  unlessError (verticalMode 3) s

/-- `VR2`: EMIT(4), A0 <- A1, A0C flipped (R159, R155). -/
def execVr2 (s : State) : Host.Outcome State Fault Refusal :=
  unlessError (verticalMode 4) s

/-- `VR3`: EMIT(5), A0 <- A1, A0C flipped (R160, R155). -/
def execVr3 (s : State) : Host.Outcome State Fault Refusal :=
  unlessError (verticalMode 5) s

/-- `VL1`: EMIT(6), A0 <- A1, A0C flipped (R161, R155). -/
def execVl1 (s : State) : Host.Outcome State Fault Refusal :=
  unlessError (verticalMode 6) s

/-- `VL2`: EMIT(7), A0 <- A1, A0C flipped (R162, R155). -/
def execVl2 (s : State) : Host.Outcome State Fault Refusal :=
  unlessError (verticalMode 7) s

/-- `VL3`: EMIT(8), A0 <- A1, A0C flipped (R163, R155). -/
def execVl3 (s : State) : Host.Outcome State Fault Refusal :=
  unlessError (verticalMode 8) s

end Sys2Proof.Machine
end

