-- ==== Sys2Proof/Machine/SinkCodes.lean ====
section
/-! DEFINITION. The terminator code word and the two sink transactions that are no codes (30_encoding R94, R105). -/

namespace Sys2Proof.Machine

open Sys2Proof

/-- `EOFB`: `SinkCode(0x001001, 24)` (R94, R105). -/
def execEofb (s : State) : Host.Outcome State Fault Refusal :=
  unlessError (sinkCode eofbCode) s

/-- `ALIGN`: `SinkAlign()` (R105, 44 R195). -/
def execAlign (s : State) : Host.Outcome State Fault Refusal :=
  unlessError sinkAlign s

/-- `FINAL`: `SinkFinalize()` (R105, 20_memory R72). -/
def execFinal (s : State) : Host.Outcome State Fault Refusal :=
  unlessError sinkFinalize s

end Sys2Proof.Machine
end

