-- ==== Sys2Proof/Machine/TermCodes.lean ====
section
/-! DEFINITION. The 128 terminating codes: each sends one code word, looked up in its colour's terminating table
(43_run_length_emitter R183, 40_code_tables R122, R125, R126). -/

namespace Sys2Proof.Machine

/-- `WT0`: the terminating step for R = 0, WHITE (R183, R125). -/
def execWt0 (s : State) : Host.Outcome State Fault Refusal :=
  unlessError (sendTerm .white 0) s

/-- `WT1`: the terminating step for R = 1, WHITE (R183, R125). -/
def execWt1 (s : State) : Host.Outcome State Fault Refusal :=
  unlessError (sendTerm .white 1) s

/-- `WT2`: the terminating step for R = 2, WHITE (R183, R125). -/
def execWt2 (s : State) : Host.Outcome State Fault Refusal :=
  unlessError (sendTerm .white 2) s

/-- `WT3`: the terminating step for R = 3, WHITE (R183, R125). -/
def execWt3 (s : State) : Host.Outcome State Fault Refusal :=
  unlessError (sendTerm .white 3) s

/-- `WT4`: the terminating step for R = 4, WHITE (R183, R125). -/
def execWt4 (s : State) : Host.Outcome State Fault Refusal :=
  unlessError (sendTerm .white 4) s

/-- `WT5`: the terminating step for R = 5, WHITE (R183, R125). -/
def execWt5 (s : State) : Host.Outcome State Fault Refusal :=
  unlessError (sendTerm .white 5) s

/-- `WT6`: the terminating step for R = 6, WHITE (R183, R125). -/
def execWt6 (s : State) : Host.Outcome State Fault Refusal :=
  unlessError (sendTerm .white 6) s

/-- `WT7`: the terminating step for R = 7, WHITE (R183, R125). -/
def execWt7 (s : State) : Host.Outcome State Fault Refusal :=
  unlessError (sendTerm .white 7) s

/-- `WT8`: the terminating step for R = 8, WHITE (R183, R125). -/
def execWt8 (s : State) : Host.Outcome State Fault Refusal :=
  unlessError (sendTerm .white 8) s

/-- `WT9`: the terminating step for R = 9, WHITE (R183, R125). -/
def execWt9 (s : State) : Host.Outcome State Fault Refusal :=
  unlessError (sendTerm .white 9) s

/-- `WT10`: the terminating step for R = 10, WHITE (R183, R125). -/
def execWt10 (s : State) : Host.Outcome State Fault Refusal :=
  unlessError (sendTerm .white 10) s

/-- `WT11`: the terminating step for R = 11, WHITE (R183, R125). -/
def execWt11 (s : State) : Host.Outcome State Fault Refusal :=
  unlessError (sendTerm .white 11) s

/-- `WT12`: the terminating step for R = 12, WHITE (R183, R125). -/
def execWt12 (s : State) : Host.Outcome State Fault Refusal :=
  unlessError (sendTerm .white 12) s

/-- `WT13`: the terminating step for R = 13, WHITE (R183, R125). -/
def execWt13 (s : State) : Host.Outcome State Fault Refusal :=
  unlessError (sendTerm .white 13) s

/-- `WT14`: the terminating step for R = 14, WHITE (R183, R125). -/
def execWt14 (s : State) : Host.Outcome State Fault Refusal :=
  unlessError (sendTerm .white 14) s

/-- `WT15`: the terminating step for R = 15, WHITE (R183, R125). -/
def execWt15 (s : State) : Host.Outcome State Fault Refusal :=
  unlessError (sendTerm .white 15) s

/-- `WT16`: the terminating step for R = 16, WHITE (R183, R125). -/
def execWt16 (s : State) : Host.Outcome State Fault Refusal :=
  unlessError (sendTerm .white 16) s

/-- `WT17`: the terminating step for R = 17, WHITE (R183, R125). -/
def execWt17 (s : State) : Host.Outcome State Fault Refusal :=
  unlessError (sendTerm .white 17) s

/-- `WT18`: the terminating step for R = 18, WHITE (R183, R125). -/
def execWt18 (s : State) : Host.Outcome State Fault Refusal :=
  unlessError (sendTerm .white 18) s

/-- `WT19`: the terminating step for R = 19, WHITE (R183, R125). -/
def execWt19 (s : State) : Host.Outcome State Fault Refusal :=
  unlessError (sendTerm .white 19) s

/-- `WT20`: the terminating step for R = 20, WHITE (R183, R125). -/
def execWt20 (s : State) : Host.Outcome State Fault Refusal :=
  unlessError (sendTerm .white 20) s

/-- `WT21`: the terminating step for R = 21, WHITE (R183, R125). -/
def execWt21 (s : State) : Host.Outcome State Fault Refusal :=
  unlessError (sendTerm .white 21) s

/-- `WT22`: the terminating step for R = 22, WHITE (R183, R125). -/
def execWt22 (s : State) : Host.Outcome State Fault Refusal :=
  unlessError (sendTerm .white 22) s

/-- `WT23`: the terminating step for R = 23, WHITE (R183, R125). -/
def execWt23 (s : State) : Host.Outcome State Fault Refusal :=
  unlessError (sendTerm .white 23) s

/-- `WT24`: the terminating step for R = 24, WHITE (R183, R125). -/
def execWt24 (s : State) : Host.Outcome State Fault Refusal :=
  unlessError (sendTerm .white 24) s

/-- `WT25`: the terminating step for R = 25, WHITE (R183, R125). -/
def execWt25 (s : State) : Host.Outcome State Fault Refusal :=
  unlessError (sendTerm .white 25) s

/-- `WT26`: the terminating step for R = 26, WHITE (R183, R125). -/
def execWt26 (s : State) : Host.Outcome State Fault Refusal :=
  unlessError (sendTerm .white 26) s

/-- `WT27`: the terminating step for R = 27, WHITE (R183, R125). -/
def execWt27 (s : State) : Host.Outcome State Fault Refusal :=
  unlessError (sendTerm .white 27) s

/-- `WT28`: the terminating step for R = 28, WHITE (R183, R125). -/
def execWt28 (s : State) : Host.Outcome State Fault Refusal :=
  unlessError (sendTerm .white 28) s

/-- `WT29`: the terminating step for R = 29, WHITE (R183, R125). -/
def execWt29 (s : State) : Host.Outcome State Fault Refusal :=
  unlessError (sendTerm .white 29) s

/-- `WT30`: the terminating step for R = 30, WHITE (R183, R125). -/
def execWt30 (s : State) : Host.Outcome State Fault Refusal :=
  unlessError (sendTerm .white 30) s

/-- `WT31`: the terminating step for R = 31, WHITE (R183, R125). -/
def execWt31 (s : State) : Host.Outcome State Fault Refusal :=
  unlessError (sendTerm .white 31) s

/-- `WT32`: the terminating step for R = 32, WHITE (R183, R125). -/
def execWt32 (s : State) : Host.Outcome State Fault Refusal :=
  unlessError (sendTerm .white 32) s

/-- `WT33`: the terminating step for R = 33, WHITE (R183, R125). -/
def execWt33 (s : State) : Host.Outcome State Fault Refusal :=
  unlessError (sendTerm .white 33) s

/-- `WT34`: the terminating step for R = 34, WHITE (R183, R125). -/
def execWt34 (s : State) : Host.Outcome State Fault Refusal :=
  unlessError (sendTerm .white 34) s

/-- `WT35`: the terminating step for R = 35, WHITE (R183, R125). -/
def execWt35 (s : State) : Host.Outcome State Fault Refusal :=
  unlessError (sendTerm .white 35) s

/-- `WT36`: the terminating step for R = 36, WHITE (R183, R125). -/
def execWt36 (s : State) : Host.Outcome State Fault Refusal :=
  unlessError (sendTerm .white 36) s

/-- `WT37`: the terminating step for R = 37, WHITE (R183, R125). -/
def execWt37 (s : State) : Host.Outcome State Fault Refusal :=
  unlessError (sendTerm .white 37) s

/-- `WT38`: the terminating step for R = 38, WHITE (R183, R125). -/
def execWt38 (s : State) : Host.Outcome State Fault Refusal :=
  unlessError (sendTerm .white 38) s

/-- `WT39`: the terminating step for R = 39, WHITE (R183, R125). -/
def execWt39 (s : State) : Host.Outcome State Fault Refusal :=
  unlessError (sendTerm .white 39) s

/-- `WT40`: the terminating step for R = 40, WHITE (R183, R125). -/
def execWt40 (s : State) : Host.Outcome State Fault Refusal :=
  unlessError (sendTerm .white 40) s

/-- `WT41`: the terminating step for R = 41, WHITE (R183, R125). -/
def execWt41 (s : State) : Host.Outcome State Fault Refusal :=
  unlessError (sendTerm .white 41) s

/-- `WT42`: the terminating step for R = 42, WHITE (R183, R125). -/
def execWt42 (s : State) : Host.Outcome State Fault Refusal :=
  unlessError (sendTerm .white 42) s

/-- `WT43`: the terminating step for R = 43, WHITE (R183, R125). -/
def execWt43 (s : State) : Host.Outcome State Fault Refusal :=
  unlessError (sendTerm .white 43) s

/-- `WT44`: the terminating step for R = 44, WHITE (R183, R125). -/
def execWt44 (s : State) : Host.Outcome State Fault Refusal :=
  unlessError (sendTerm .white 44) s

/-- `WT45`: the terminating step for R = 45, WHITE (R183, R125). -/
def execWt45 (s : State) : Host.Outcome State Fault Refusal :=
  unlessError (sendTerm .white 45) s

/-- `WT46`: the terminating step for R = 46, WHITE (R183, R125). -/
def execWt46 (s : State) : Host.Outcome State Fault Refusal :=
  unlessError (sendTerm .white 46) s

/-- `WT47`: the terminating step for R = 47, WHITE (R183, R125). -/
def execWt47 (s : State) : Host.Outcome State Fault Refusal :=
  unlessError (sendTerm .white 47) s

/-- `WT48`: the terminating step for R = 48, WHITE (R183, R125). -/
def execWt48 (s : State) : Host.Outcome State Fault Refusal :=
  unlessError (sendTerm .white 48) s

/-- `WT49`: the terminating step for R = 49, WHITE (R183, R125). -/
def execWt49 (s : State) : Host.Outcome State Fault Refusal :=
  unlessError (sendTerm .white 49) s

/-- `WT50`: the terminating step for R = 50, WHITE (R183, R125). -/
def execWt50 (s : State) : Host.Outcome State Fault Refusal :=
  unlessError (sendTerm .white 50) s

/-- `WT51`: the terminating step for R = 51, WHITE (R183, R125). -/
def execWt51 (s : State) : Host.Outcome State Fault Refusal :=
  unlessError (sendTerm .white 51) s

/-- `WT52`: the terminating step for R = 52, WHITE (R183, R125). -/
def execWt52 (s : State) : Host.Outcome State Fault Refusal :=
  unlessError (sendTerm .white 52) s

/-- `WT53`: the terminating step for R = 53, WHITE (R183, R125). -/
def execWt53 (s : State) : Host.Outcome State Fault Refusal :=
  unlessError (sendTerm .white 53) s

/-- `WT54`: the terminating step for R = 54, WHITE (R183, R125). -/
def execWt54 (s : State) : Host.Outcome State Fault Refusal :=
  unlessError (sendTerm .white 54) s

/-- `WT55`: the terminating step for R = 55, WHITE (R183, R125). -/
def execWt55 (s : State) : Host.Outcome State Fault Refusal :=
  unlessError (sendTerm .white 55) s

/-- `WT56`: the terminating step for R = 56, WHITE (R183, R125). -/
def execWt56 (s : State) : Host.Outcome State Fault Refusal :=
  unlessError (sendTerm .white 56) s

/-- `WT57`: the terminating step for R = 57, WHITE (R183, R125). -/
def execWt57 (s : State) : Host.Outcome State Fault Refusal :=
  unlessError (sendTerm .white 57) s

/-- `WT58`: the terminating step for R = 58, WHITE (R183, R125). -/
def execWt58 (s : State) : Host.Outcome State Fault Refusal :=
  unlessError (sendTerm .white 58) s

/-- `WT59`: the terminating step for R = 59, WHITE (R183, R125). -/
def execWt59 (s : State) : Host.Outcome State Fault Refusal :=
  unlessError (sendTerm .white 59) s

/-- `WT60`: the terminating step for R = 60, WHITE (R183, R125). -/
def execWt60 (s : State) : Host.Outcome State Fault Refusal :=
  unlessError (sendTerm .white 60) s

/-- `WT61`: the terminating step for R = 61, WHITE (R183, R125). -/
def execWt61 (s : State) : Host.Outcome State Fault Refusal :=
  unlessError (sendTerm .white 61) s

/-- `WT62`: the terminating step for R = 62, WHITE (R183, R125). -/
def execWt62 (s : State) : Host.Outcome State Fault Refusal :=
  unlessError (sendTerm .white 62) s

/-- `WT63`: the terminating step for R = 63, WHITE (R183, R125). -/
def execWt63 (s : State) : Host.Outcome State Fault Refusal :=
  unlessError (sendTerm .white 63) s

/-- `BT0`: the terminating step for R = 0, BLACK (R183, R126). -/
def execBt0 (s : State) : Host.Outcome State Fault Refusal :=
  unlessError (sendTerm .black 0) s

/-- `BT1`: the terminating step for R = 1, BLACK (R183, R126). -/
def execBt1 (s : State) : Host.Outcome State Fault Refusal :=
  unlessError (sendTerm .black 1) s

/-- `BT2`: the terminating step for R = 2, BLACK (R183, R126). -/
def execBt2 (s : State) : Host.Outcome State Fault Refusal :=
  unlessError (sendTerm .black 2) s

/-- `BT3`: the terminating step for R = 3, BLACK (R183, R126). -/
def execBt3 (s : State) : Host.Outcome State Fault Refusal :=
  unlessError (sendTerm .black 3) s

/-- `BT4`: the terminating step for R = 4, BLACK (R183, R126). -/
def execBt4 (s : State) : Host.Outcome State Fault Refusal :=
  unlessError (sendTerm .black 4) s

/-- `BT5`: the terminating step for R = 5, BLACK (R183, R126). -/
def execBt5 (s : State) : Host.Outcome State Fault Refusal :=
  unlessError (sendTerm .black 5) s

/-- `BT6`: the terminating step for R = 6, BLACK (R183, R126). -/
def execBt6 (s : State) : Host.Outcome State Fault Refusal :=
  unlessError (sendTerm .black 6) s

/-- `BT7`: the terminating step for R = 7, BLACK (R183, R126). -/
def execBt7 (s : State) : Host.Outcome State Fault Refusal :=
  unlessError (sendTerm .black 7) s

/-- `BT8`: the terminating step for R = 8, BLACK (R183, R126). -/
def execBt8 (s : State) : Host.Outcome State Fault Refusal :=
  unlessError (sendTerm .black 8) s

/-- `BT9`: the terminating step for R = 9, BLACK (R183, R126). -/
def execBt9 (s : State) : Host.Outcome State Fault Refusal :=
  unlessError (sendTerm .black 9) s

/-- `BT10`: the terminating step for R = 10, BLACK (R183, R126). -/
def execBt10 (s : State) : Host.Outcome State Fault Refusal :=
  unlessError (sendTerm .black 10) s

/-- `BT11`: the terminating step for R = 11, BLACK (R183, R126). -/
def execBt11 (s : State) : Host.Outcome State Fault Refusal :=
  unlessError (sendTerm .black 11) s

/-- `BT12`: the terminating step for R = 12, BLACK (R183, R126). -/
def execBt12 (s : State) : Host.Outcome State Fault Refusal :=
  unlessError (sendTerm .black 12) s

/-- `BT13`: the terminating step for R = 13, BLACK (R183, R126). -/
def execBt13 (s : State) : Host.Outcome State Fault Refusal :=
  unlessError (sendTerm .black 13) s

/-- `BT14`: the terminating step for R = 14, BLACK (R183, R126). -/
def execBt14 (s : State) : Host.Outcome State Fault Refusal :=
  unlessError (sendTerm .black 14) s

/-- `BT15`: the terminating step for R = 15, BLACK (R183, R126). -/
def execBt15 (s : State) : Host.Outcome State Fault Refusal :=
  unlessError (sendTerm .black 15) s

/-- `BT16`: the terminating step for R = 16, BLACK (R183, R126). -/
def execBt16 (s : State) : Host.Outcome State Fault Refusal :=
  unlessError (sendTerm .black 16) s

/-- `BT17`: the terminating step for R = 17, BLACK (R183, R126). -/
def execBt17 (s : State) : Host.Outcome State Fault Refusal :=
  unlessError (sendTerm .black 17) s

/-- `BT18`: the terminating step for R = 18, BLACK (R183, R126). -/
def execBt18 (s : State) : Host.Outcome State Fault Refusal :=
  unlessError (sendTerm .black 18) s

/-- `BT19`: the terminating step for R = 19, BLACK (R183, R126). -/
def execBt19 (s : State) : Host.Outcome State Fault Refusal :=
  unlessError (sendTerm .black 19) s

/-- `BT20`: the terminating step for R = 20, BLACK (R183, R126). -/
def execBt20 (s : State) : Host.Outcome State Fault Refusal :=
  unlessError (sendTerm .black 20) s

/-- `BT21`: the terminating step for R = 21, BLACK (R183, R126). -/
def execBt21 (s : State) : Host.Outcome State Fault Refusal :=
  unlessError (sendTerm .black 21) s

/-- `BT22`: the terminating step for R = 22, BLACK (R183, R126). -/
def execBt22 (s : State) : Host.Outcome State Fault Refusal :=
  unlessError (sendTerm .black 22) s

/-- `BT23`: the terminating step for R = 23, BLACK (R183, R126). -/
def execBt23 (s : State) : Host.Outcome State Fault Refusal :=
  unlessError (sendTerm .black 23) s

/-- `BT24`: the terminating step for R = 24, BLACK (R183, R126). -/
def execBt24 (s : State) : Host.Outcome State Fault Refusal :=
  unlessError (sendTerm .black 24) s

/-- `BT25`: the terminating step for R = 25, BLACK (R183, R126). -/
def execBt25 (s : State) : Host.Outcome State Fault Refusal :=
  unlessError (sendTerm .black 25) s

/-- `BT26`: the terminating step for R = 26, BLACK (R183, R126). -/
def execBt26 (s : State) : Host.Outcome State Fault Refusal :=
  unlessError (sendTerm .black 26) s

/-- `BT27`: the terminating step for R = 27, BLACK (R183, R126). -/
def execBt27 (s : State) : Host.Outcome State Fault Refusal :=
  unlessError (sendTerm .black 27) s

/-- `BT28`: the terminating step for R = 28, BLACK (R183, R126). -/
def execBt28 (s : State) : Host.Outcome State Fault Refusal :=
  unlessError (sendTerm .black 28) s

/-- `BT29`: the terminating step for R = 29, BLACK (R183, R126). -/
def execBt29 (s : State) : Host.Outcome State Fault Refusal :=
  unlessError (sendTerm .black 29) s

/-- `BT30`: the terminating step for R = 30, BLACK (R183, R126). -/
def execBt30 (s : State) : Host.Outcome State Fault Refusal :=
  unlessError (sendTerm .black 30) s

/-- `BT31`: the terminating step for R = 31, BLACK (R183, R126). -/
def execBt31 (s : State) : Host.Outcome State Fault Refusal :=
  unlessError (sendTerm .black 31) s

/-- `BT32`: the terminating step for R = 32, BLACK (R183, R126). -/
def execBt32 (s : State) : Host.Outcome State Fault Refusal :=
  unlessError (sendTerm .black 32) s

/-- `BT33`: the terminating step for R = 33, BLACK (R183, R126). -/
def execBt33 (s : State) : Host.Outcome State Fault Refusal :=
  unlessError (sendTerm .black 33) s

/-- `BT34`: the terminating step for R = 34, BLACK (R183, R126). -/
def execBt34 (s : State) : Host.Outcome State Fault Refusal :=
  unlessError (sendTerm .black 34) s

/-- `BT35`: the terminating step for R = 35, BLACK (R183, R126). -/
def execBt35 (s : State) : Host.Outcome State Fault Refusal :=
  unlessError (sendTerm .black 35) s

/-- `BT36`: the terminating step for R = 36, BLACK (R183, R126). -/
def execBt36 (s : State) : Host.Outcome State Fault Refusal :=
  unlessError (sendTerm .black 36) s

/-- `BT37`: the terminating step for R = 37, BLACK (R183, R126). -/
def execBt37 (s : State) : Host.Outcome State Fault Refusal :=
  unlessError (sendTerm .black 37) s

/-- `BT38`: the terminating step for R = 38, BLACK (R183, R126). -/
def execBt38 (s : State) : Host.Outcome State Fault Refusal :=
  unlessError (sendTerm .black 38) s

/-- `BT39`: the terminating step for R = 39, BLACK (R183, R126). -/
def execBt39 (s : State) : Host.Outcome State Fault Refusal :=
  unlessError (sendTerm .black 39) s

/-- `BT40`: the terminating step for R = 40, BLACK (R183, R126). -/
def execBt40 (s : State) : Host.Outcome State Fault Refusal :=
  unlessError (sendTerm .black 40) s

/-- `BT41`: the terminating step for R = 41, BLACK (R183, R126). -/
def execBt41 (s : State) : Host.Outcome State Fault Refusal :=
  unlessError (sendTerm .black 41) s

/-- `BT42`: the terminating step for R = 42, BLACK (R183, R126). -/
def execBt42 (s : State) : Host.Outcome State Fault Refusal :=
  unlessError (sendTerm .black 42) s

/-- `BT43`: the terminating step for R = 43, BLACK (R183, R126). -/
def execBt43 (s : State) : Host.Outcome State Fault Refusal :=
  unlessError (sendTerm .black 43) s

/-- `BT44`: the terminating step for R = 44, BLACK (R183, R126). -/
def execBt44 (s : State) : Host.Outcome State Fault Refusal :=
  unlessError (sendTerm .black 44) s

/-- `BT45`: the terminating step for R = 45, BLACK (R183, R126). -/
def execBt45 (s : State) : Host.Outcome State Fault Refusal :=
  unlessError (sendTerm .black 45) s

/-- `BT46`: the terminating step for R = 46, BLACK (R183, R126). -/
def execBt46 (s : State) : Host.Outcome State Fault Refusal :=
  unlessError (sendTerm .black 46) s

/-- `BT47`: the terminating step for R = 47, BLACK (R183, R126). -/
def execBt47 (s : State) : Host.Outcome State Fault Refusal :=
  unlessError (sendTerm .black 47) s

/-- `BT48`: the terminating step for R = 48, BLACK (R183, R126). -/
def execBt48 (s : State) : Host.Outcome State Fault Refusal :=
  unlessError (sendTerm .black 48) s

/-- `BT49`: the terminating step for R = 49, BLACK (R183, R126). -/
def execBt49 (s : State) : Host.Outcome State Fault Refusal :=
  unlessError (sendTerm .black 49) s

/-- `BT50`: the terminating step for R = 50, BLACK (R183, R126). -/
def execBt50 (s : State) : Host.Outcome State Fault Refusal :=
  unlessError (sendTerm .black 50) s

/-- `BT51`: the terminating step for R = 51, BLACK (R183, R126). -/
def execBt51 (s : State) : Host.Outcome State Fault Refusal :=
  unlessError (sendTerm .black 51) s

/-- `BT52`: the terminating step for R = 52, BLACK (R183, R126). -/
def execBt52 (s : State) : Host.Outcome State Fault Refusal :=
  unlessError (sendTerm .black 52) s

/-- `BT53`: the terminating step for R = 53, BLACK (R183, R126). -/
def execBt53 (s : State) : Host.Outcome State Fault Refusal :=
  unlessError (sendTerm .black 53) s

/-- `BT54`: the terminating step for R = 54, BLACK (R183, R126). -/
def execBt54 (s : State) : Host.Outcome State Fault Refusal :=
  unlessError (sendTerm .black 54) s

/-- `BT55`: the terminating step for R = 55, BLACK (R183, R126). -/
def execBt55 (s : State) : Host.Outcome State Fault Refusal :=
  unlessError (sendTerm .black 55) s

/-- `BT56`: the terminating step for R = 56, BLACK (R183, R126). -/
def execBt56 (s : State) : Host.Outcome State Fault Refusal :=
  unlessError (sendTerm .black 56) s

/-- `BT57`: the terminating step for R = 57, BLACK (R183, R126). -/
def execBt57 (s : State) : Host.Outcome State Fault Refusal :=
  unlessError (sendTerm .black 57) s

/-- `BT58`: the terminating step for R = 58, BLACK (R183, R126). -/
def execBt58 (s : State) : Host.Outcome State Fault Refusal :=
  unlessError (sendTerm .black 58) s

/-- `BT59`: the terminating step for R = 59, BLACK (R183, R126). -/
def execBt59 (s : State) : Host.Outcome State Fault Refusal :=
  unlessError (sendTerm .black 59) s

/-- `BT60`: the terminating step for R = 60, BLACK (R183, R126). -/
def execBt60 (s : State) : Host.Outcome State Fault Refusal :=
  unlessError (sendTerm .black 60) s

/-- `BT61`: the terminating step for R = 61, BLACK (R183, R126). -/
def execBt61 (s : State) : Host.Outcome State Fault Refusal :=
  unlessError (sendTerm .black 61) s

/-- `BT62`: the terminating step for R = 62, BLACK (R183, R126). -/
def execBt62 (s : State) : Host.Outcome State Fault Refusal :=
  unlessError (sendTerm .black 62) s

/-- `BT63`: the terminating step for R = 63, BLACK (R183, R126). -/
def execBt63 (s : State) : Host.Outcome State Fault Refusal :=
  unlessError (sendTerm .black 63) s

end Sys2Proof.Machine
end

