-- ==== Sys2Proof/Machine/HostPort.lean ====
section
/-! DEFINITION. The host accesses and environment events that no row of the opcode table names (log entries 9, 16,
17). -/

namespace Sys2Proof.Machine

open Sys2Proof

/-- Hardware reset: every item of 10_state R41 as after reset, the line buffers unspecified anew;
the sink is not touched (70_reset R240 to R242). -/
def State.hardwareReset (s : State) : State :=
  { State.reset with
    sinkLog := s.sinkLog, sinkAnswers := s.sinkAnswers, inbox := s.inbox
    result := s.result, txCount := s.txCount, free := s.free }.forgetCur.forgetRef

/-- Hardware reset inside a command: the command is abandoned after these of its transactions, which the sink keeps
("the sink may hold any prefix of what the command would have sent", 70_reset R240). -/
def State.abandoned (sent : List SinkEvent) (s : State) : State :=
  State.hardwareReset { s with
    sinkLog := s.sinkLog ++ sent
    sinkAnswers := s.sinkAnswers.drop sent.length
    txCount := s.txCount + sent.length }

/-- The sink's answers, its script cut after the first `n`: what comes after the reset is not sent, and a refusal ends
the command there. -/
def State.answersUpTo (n : Nat) (s : State) : List SinkAnswer :=
  if n ≤ s.sinkAnswers.length then s.sinkAnswers.take n ++ [.fail] else s.sinkAnswers

/-- A host write during which hardware reset comes, after at most `n` of its sink transactions (R240, 93 U18, log
entry 17). What the write would send up to there depends on the first `n` answers alone, so a sink that falls silent
later does not matter; one that falls silent earlier is reached by a smaller `n`. -/
def resetDuringWrite (d : Decoded) (n : Nat) (s : State) : Host.Outcome State Fault Refusal :=
  match d with
  | .instr i =>
    match exec i { s with sinkAnswers := s.answersUpTo n } with
    | .next t => .next (s.abandoned ((t.sinkLog.drop s.sinkLog.length).take n))
    | other => other
  | _ => .next s.hardwareReset

/-- A host access without a row. Reads return the register or 0 (44 R198, 10_state R32, R34, R36); a write to
STATUS, LOADCNT or a reserved offset is ignored (R33, R35, R36); a reserved command code is a ProtocolError, ignored
in phase ERROR (30_encoding R102); attaching a fresh sink empties the stream (70_reset R244). -/
def hostAccess (a : HostAccess) (s : State) : Host.Outcome State Fault Refusal :=
  match a with
  | .readWidth => .next (s.give (.word s.widthWord))
  | .readCtrl => .next (s.give (.word s.ctrlWord))
  | .readZero => .next (s.give (.word 0))
  | .ignoredWrite => .next s
  | .reservedCommand => if s.phase = .error then .next s else .next (s.raise .protocolError)
  | .hardwareReset => .next s.hardwareReset
  | .resetDuring offset data sent => resetDuringWrite (decodeWrite offset data) sent s
  | .attachSink => .next { s with sinkLog := [] }

end Sys2Proof.Machine
end

