-- ==== Sys2Proof/Machine/Sink.lean ====
section
/-! DEFINITION. The reference sink (20_memory R75): the bits and bytes a list of answered transactions comes to. -/

namespace Sys2Proof.Machine

open Sys2Proof

/-- The reference sink's state. -/
structure RefSink where
  bits : List Bool
  closed : Bool
deriving DecidableEq, Repr

/-- The bits of a code in transmission order (30_encoding R91, 20_memory R65). -/
def Code.bits (c : Code) : List Bool :=
  bitsOf c.len c.value.toNat

/-- The zero bits that pad `p` bits to a byte boundary: `(8 - p mod 8) mod 8` of them (R71). -/
def padding (p : Nat) : List Bool :=
  List.replicate ((8 - p % 8) % 8) false

/-- The bits an accepted transaction appends to a stream of `p` bits (R70, R71, R72, R75). -/
def SinkTx.bits (tx : SinkTx) (p : Nat) : List Bool :=
  match tx with
  | .writeCode c => c.bits
  | .alignToByteBoundary => padding p
  | .finalize => padding p

/-- An unspecified part of some bits, for transaction number `n` (R70, 93 U2). -/
def unspecifiedPart (n : Nat) (bits : List Bool) : List Bool :=
  (bits.zipIdx.filter fun x => Config.keepsBit n x.2).map Prod.fst

/-- The sink after one answered transaction; after `finalize` it "accepts nothing more" (R72). DESIGN CHOICE (log
entry 26): a `finalize` answered *fail* leaves the sink open. R72 does not say what it leaves, and the sink of R75 never
fails. -/
def RefSink.after (k : RefSink) (e : SinkEvent) : RefSink :=
  if k.closed then k
  else if e.accepted then ⟨k.bits ++ e.tx.bits k.bits.length, decide (e.tx = .finalize)⟩
  else ⟨k.bits ++ unspecifiedPart e.number (e.tx.bits k.bits.length), false⟩

/-- The reference sink attached to the block: fresh, then every transaction since. -/
def State.refSink (s : State) : RefSink :=
  s.sinkLog.foldl RefSink.after ⟨[], false⟩

/-- Bits to bytes, the first bit of a byte its bit 7 (R65 b, R75). -/
def bytesOf : (n : Nat) → List Bool → List (BitVec 8)
  | 0, _ => []
  | n + 1, bits => BitVec.ofNat 8 (valueOf (bits.take 8)) :: bytesOf n (bits.drop 8)

/-- The byte buffer `finalize` returned, once it has (R72, R76). -/
def State.output (s : State) : Option (List (BitVec 8)) :=
  if s.refSink.closed then some (bytesOf (s.refSink.bits.length / 8) s.refSink.bits) else none

end Sys2Proof.Machine
end

