-- ==== Sys2Proof/Machine/Step.lean ====
section
/-! DEFINITION. One step: the next request of the environment, served whole (00_scope R6, log entry 1). -/

namespace Sys2Proof.Machine

open Sys2Proof

/-- One step. With no request the block waits (70_reset R241). -/
def step (s : State) : Host.Outcome State Fault Refusal :=
  match s.inbox with
  | [] => .next s
  | req :: rest =>
    match decode req with
    | .instr i => exec i { s with inbox := rest }
    | .access a => hostAccess a { s with inbox := rest }
    | .reject why => .refused (.undecodable why)

/-- The state whose next step runs the table word: the word's request stands first in the inbox. -/
def State.withFetchWord (s : State) (nbits w : Nat) : State :=
  { s with inbox := requestOfTableWord nbits w :: s.inbox }

end Sys2Proof.Machine
end

