-- ==== Sys2Proof/Safety.lean ====
section
/-! DEFINITION. The terms in which claims about G4ENC are stated: what the sink is about to answer, the invariant of
the machine, the codes of a run, and what coding a line leaves alone. -/

namespace Sys2Proof.Machine

open Sys2Proof

/-- The next `n` scripted answers of the sink are all *ok* ("a claim under the premise that every answer was *ok*",
20_memory R74). -/
def State.acceptsNext (n : Nat) (s : State) : Prop :=
  s.sinkAnswers.take n = List.replicate n .ok

/-- The next scripted answer is *fail*. -/
def State.failsNext (s : State) : Prop :=
  s.sinkAnswers.head? = some .fail

/-- The premise `sinkAnswers`: "every sink transaction answers" (70_reset R253, decision D21). -/
def State.answering (s : State) : Prop :=
  SinkAnswer.silent ∉ s.sinkAnswers

/-- The same state in front of a sink that will give these answers next. -/
def State.scripted (answers : List SinkAnswer) (s : State) : State :=
  { s with sinkAnswers := answers }

/-- The state after the sink accepted these codes in this order. -/
def State.sent (codes : List Code) (s : State) : State :=
  codes.foldl (fun t c => t.record (.writeCode c) true) s

/-- The state after the sink refused a transaction: SinkWriteFailure (60_exceptions R211, R216). -/
def State.sinkRefused (tx : SinkTx) (s : State) : State :=
  (s.record tx false).raise .sinkWriteFailure

/-- The context in which a run of a colour is read (30_encoding R104 b, c). -/
def runContext (c : Colour) : CodeContext :=
  match c with
  | .white => .white
  | .black => .black

/-- The code word in row `k` of a context's list of code words, as a code. -/
def wordAt (ctx : CodeContext) (k : Nat) : Option Code :=
  ((codeWords ctx)[k]?).map fun row => ⟨BitVec.ofNat 24 row.value, row.len⟩

/-- The codes of `RUN(n, c)`, read off the code words and not the ROM: a makeup code for `64 * (n div 64)` when that is
not 0, then the terminating code for `n mod 64` (43 R181). In a context's list the terminating words stand in rows
0..63 and the makeup word for `q` in row `63 + q`. -/
def runCodes (n : Nat) (c : Colour) : List Code :=
  (if n / 64 = 0 then [] else (wordAt (runContext c) (63 + n / 64)).toList) ++ (wordAt (runContext c) (n % 64)).toList

/-- How many bits a list of codes has. -/
def totalBits (codes : List Code) : Nat :=
  (codes.map Code.len).sum

/-- What coding a line leaves alone, whatever it comes to: the configuration, the flag REFV, LOADCNT, both line buffers,
the requests to come and the last returned value; and the sink has received only more (42 R150, 60_exceptions R216). -/
structure State.LineFrame (s t : State) : Prop where
  width : t.width = s.width
  ba : t.ba = s.ba
  refv : t.refv = s.refv
  loadcnt : t.loadcnt = s.loadcnt
  cur : t.cur = s.cur
  ref : t.ref = s.ref
  inbox : t.inbox = s.inbox
  result : t.result = s.result
  sink : s.sinkLog <+: t.sinkLog

/-- The invariant of the machine: ERRCODE is non-zero exactly in phase ERROR (10_state R33); an open page has a legal
width (44 R192) and at most `W` pixels loaded (10_state R35); A0 is at least -1 (10_state R21); both line buffers are in
canonical form. -/
structure State.Inv (s : State) : Prop where
  errcode : s.errcode ≠ .none ↔ s.phase = .error
  pageWidth : s.phase = .page → 1 ≤ s.w ∧ s.w ≤ Config.wMax
  pageLoaded : s.phase = .page → s.loadcnt.toNat ≤ s.w
  position : -1 ≤ s.a0.toInt
  cur : s.cur.wf = true
  ref : s.ref.wf = true

/-- The coding position says where the line encoder is: before the line, or on a pixel of colour A0C (42 R165). -/
def State.onLine (s : State) : Prop :=
  (s.a0.toInt = -1 ∧ s.a0c = .white) ∨
    ∃ i : Nat, s.a0.toInt = i ∧ i < s.w ∧ s.cur.pixel i = s.a0c

/-- The colour left of pixel `i`: WHITE before the line (00_scope, glossary "changing element"; 41_scanner R142). -/
def Line.leftColour (l : Line) (i : Nat) : Colour :=
  match i with
  | 0 => .white
  | k + 1 => l.pixel k

/-- The request is a hardware reset, between commands or inside one (70_reset R240). -/
def isReset (req : Request) : Prop :=
  decode req = .access .hardwareReset ∨ ∃ offset data n, decode req = .access (.resetDuring offset data n)

/-- The operations that put a transaction on the sink as their first act, with that transaction: a code word sends the
number its own bit string reads as, with the string's length (30_encoding R91, R103); two transactions are no codes. -/
def sendsFirst (i : Instr) (tx : SinkTx) : Prop :=
  (∃ ctx bits, encode i = .code ctx bits ∧ tx = .writeCode ⟨BitVec.ofNat 24 (valueOf bits), bits.length⟩) ∨
    (i = .align ∧ tx = .alignToByteBoundary) ∨ (i = .final ∧ tx = .finalize)

end Sys2Proof.Machine
end

