-- ==== Sys2Proof/Certificates/Slice0/Obligations.lean ====
section
/-! DEFINITION. The statements for the provers, in the order of OBLIGATIONS.json. -/

open Sys2Proof Sys2Proof.Machine

/-- A step serves the first request: it is exec of the operation the request decodes to. Rests on R6, R200. That
requests wait in an inbox, and how a table word becomes one, are the model's choices (log entries 1, 14 and 15). -/
def Obligations.StepRunsTheDecodedRequest : Prop :=
  (∀ (s : State) (req : Request) (rest : List Request), s.inbox = req :: rest →
    (∀ i, decode req = .instr i → step s = exec i { s with inbox := rest }) ∧
    (∀ a, decode req = .access a → step s = hostAccess a { s with inbox := rest }) ∧
    (∀ why, decode req = .reject why → step s = .refused (.undecodable why))) ∧
  ∀ (s : State) (nbits w : Nat) (i : Instr), decodeTableWord nbits w = some i →
    step (s.withFetchWord nbits w) = exec i s

/-- Reset leaves the values the spec states, and inside a command a prefix of what it would have sent; then the block
waits. Rests on R241, R41, R240, R242, R28. The point at which a reset inside a command takes it is counted in whole
transactions by the model's choice (log entry 17), and a transaction past the script is answered by the model's choice
(log entry 7). -/
def Obligations.ResetLeavesTheStatedValues : Prop :=
  (∀ t : State, t = State.reset ∨
      (∃ (s : State) (req : Request), isReset req ∧ step { s with inbox := [req] } = .next t) →
    t.phase = .idle ∧ t.errcode = .none ∧ t.width = 0 ∧ t.ba = false ∧ t.refv = false ∧ t.loadcnt = 0 ∧
      t.a0.toInt = -1 ∧ t.a0c = .white) ∧
  (∀ s : State, ∃ t, step { s with inbox := [.hardwareReset] } = .next t ∧ t.sinkLog = s.sinkLog ∧
    t.sinkAnswers = s.sinkAnswers ∧ t.txCount = s.txCount ∧ t.result = s.result ∧ t.inbox = []) ∧
  (∀ s : State, s.inbox = [] → step s = .next s) ∧
  ∀ (s : State) (offset data : Word) (n : Nat) (rest : List Request),
    s.inbox = .resetDuring offset data n :: rest →
    (s.Inv → .silent ∉ s.sinkAnswers.take n → ∃ t, step s = .next t) ∧
    ∀ t, step s = .next t →
      (∃ m ≤ n, t.sinkLog.length = s.sinkLog.length + m ∧ t.txCount = s.txCount + m ∧
        t.sinkAnswers = s.sinkAnswers.drop m) ∧
      ∀ (answers later : List SinkAnswer) (u : State),
        answers = s.sinkAnswers ∨ (n ≤ s.sinkAnswers.length ∧ answers = s.sinkAnswers.take n ++ later) →
        step { s with inbox := .hostWrite offset data :: rest, sinkAnswers := answers } = .next u →
        t.sinkLog = u.sinkLog.take (s.sinkLog.length + n)

/-- The reset state satisfies the machine invariant. Rests on R33, R35, R192, R21, R41. The canonical form of the line
buffers is the model's choice (log entry 5). -/
def Obligations.InvariantHoldsAtReset : Prop :=
  State.reset.Inv

/-- Every step keeps the machine invariant. Rests on R33, R35, R192, R21, R216, R197. The canonical form of the line
buffers is the model's choice (log entry 5). -/
def Obligations.EveryStepKeepsTheInvariant : Prop :=
  ∀ s t : State, s.Inv → step s = .next t → t.Inv

/-- No host access is refused or gets stuck: in every invariant state with an answering sink its step is a next state.
Rests on R253, R200, R61, R184, R36. That a transaction past the script is answered is the model's choice, decision
D21's premise (log entry 7). -/
def Obligations.HostAccessesAlwaysComplete : Prop :=
  ∀ (s : State) (req : Request) (rest : List Request), s.Inv → s.answering → s.inbox = req :: rest →
    ((∃ offset data, req = .hostWrite offset data) ∨ ∃ offset, req = .hostRead offset) →
    ∃ t, step s = .next t

/-- Decoding the encoding of every well-formed operation gives it back. Rests on R91, R97, R98, R107, 30_encoding. -/
def Obligations.EveryWellFormedInstructionRoundTrips : Prop :=
  ∀ i : Instr, i.wellFormed = true → decode (encode i) = .instr i

/-- A code word decodes to an operation only if its bits are exactly that operation's code word. Rests on R91, R103,
R104. -/
def Obligations.DecodedCodeWordsAreTheirEncoding : Prop :=
  ∀ (ctx : CodeContext) (bits : List Bool) (i : Instr), decode (.code ctx bits) = .instr i →
    i.wellFormed = true ∧ ∃ ctx', encode i = .code ctx' bits

/-- Words written out from the spec's tables decode to their operations. Rests on R92, R93, R94, R97, R98. -/
def Obligations.WrittenOutWordsDecode : Prop :=
  decode (.code .mode [false, false, false, true]) = .instr .p ∧
  decode (.code .mode [false, true, false]) = .instr .vl1 ∧
  decode (.code .white [false, false, true, true, false, true, false, true]) = .instr .wt0 ∧
  decode (.code .black [true, true]) = .instr .bt2 ∧
  decode (.code .white [true, true, false, true, true]) = .instr .wm64 ∧
  decode (.code .black [false, false, false, false, false, false, true, true, true, true]) = .instr .bm64 ∧
  decode (.code .black [false, false, false, false, false, false, false, true, false, false, false]) = .instr .xm1792 ∧
  decode (.hostWrite 0x08 0xFFFFFFF9) = .instr .init ∧
  decode (.hostWrite 0x00 0xFFFFF008) = .instr (.wrWidth 8) ∧
  decode (.hostWrite 0x10 0x3) = .instr (.pix .black) ∧
  decode (.hostRead 0x0C) = .instr .rdStatus

/-- In each context no code word is a prefix of another, and each colour's 104 run words have Kraft sum exactly
4080/4096. Rests on R104, R131. -/
def Obligations.CodeWordsArePrefixFree : Prop :=
  (∀ ctx, (codeWords ctx).Pairwise fun a b =>
    ¬ bitsOf a.len a.value <+: bitsOf b.len b.value ∧ ¬ bitsOf b.len b.value <+: bitsOf a.len a.value) ∧
  (∀ r ∈ codeWords .white ++ codeWords .black ++ (codeWords .mode).take 9,
    ¬ bitsOf r.len r.value <+: bitsOf 12 1 ∧ ¬ bitsOf 12 1 <+: bitsOf r.len r.value) ∧
  ∀ c : Colour, (codeWords (runContext c)).length = 104 ∧
    ((codeWords (runContext c)).map fun r => 2 ^ (13 - r.len)).sum = 2 * 4080

/-- A host write takes only the bits its register has, at its offset; reserved commands are recognised; a write
elsewhere changes nothing. Rests on R97, R98, R102, R36, R32, R33, R35. Requests wait in an inbox by the model's
choice (log entry 1). -/
def Obligations.RegisterWritesTakeOnlyTheirBits : Prop :=
  (∀ data : Word, decode (.hostWrite 0x00 data) = .instr (.wrWidth (BitVec.ofNat 12 data.toNat))) ∧
  (∀ data : Word, decode (.hostWrite 0x04 data) = .instr (.wrCtrl (data.toNat % 2 == 1))) ∧
  (∀ data : Word, decode (.hostWrite 0x10 data) = .instr (.pix (if data.toNat % 2 = 1 then .black else .white))) ∧
  (∀ data : Word, decode (.hostWrite 0x08 data) =
    if data.toNat % 8 = 1 then .instr .init
    else if data.toNat % 8 = 2 then .instr .row
    else if data.toNat % 8 = 3 then .instr .eofbCmd
    else if data.toNat % 8 = 4 then .instr .clear
    else .access .reservedCommand) ∧
  ∀ offset data : Word, offset.toNat ∉ [0x00, 0x04, 0x08, 0x10] →
    decode (.hostWrite offset data) = .access .ignoredWrite ∧
    ∀ (s : State) (rest : List Request), s.inbox = .hostWrite offset data :: rest →
      step s = .next { s with inbox := rest }

/-- A lookup inside its table returns the code word of its row. Rests on R121, R122, R123, R96. The field that holds
the returned value is the model's choice (log entry 12). -/
def Obligations.LookupsReturnTheCodeWords : Prop :=
  (∀ (s : State) (sym : BitVec 6), sym.toNat ≤ 8 →
    ∃ k, wordAt .mode sym.toNat = some k ∧ exec (.lookupMode sym) s = .next { s with result := .code k }) ∧
  (∀ (s : State) (c : Colour) (rem : BitVec 6),
    ∃ k, wordAt (runContext c) rem.toNat = some k ∧ exec (.lookupTerm c rem) s = .next { s with result := .code k }) ∧
  ∀ (s : State) (c : Colour) (quot : BitVec 6), 1 ≤ quot.toNat → quot.toNat ≤ 40 →
    ∃ k, wordAt (runContext c) (63 + quot.toNat) = some k ∧
      exec (.lookupMakeup c quot) s = .next { s with result := .code k }

/-- A lookup at a ROM address is refused exactly when the address is reserved. Rests on R101, R96, R120. The refusal
of EMIT and of the lookups outside their tables is the model's form of the spec's 'should refuse' (log entry 18). -/
def Obligations.ReservedRomAddressesAreRefused : Prop :=
  (∀ addr : BitVec 9, romRead addr = .error .reservedRomAddress ↔
    (0x068 ≤ addr.toNat ∧ addr.toNat ≤ 0x07F) ∨ (0x0E8 ≤ addr.toNat ∧ addr.toNat ≤ 0x0FF) ∨ 0x109 ≤ addr.toNat) ∧
  ((List.range 512).countP fun a => (romRead (BitVec.ofNat 9 a)).isOk) = 217 ∧
  (∀ (s : State) (sym : BitVec 6), 8 < sym.toNat →
    exec (.lookupMode sym) s = .refused .reservedRomAddress) ∧
  (∀ (s : State) (c : Colour) (quot : BitVec 6), quot.toNat = 0 ∨ 40 < quot.toNat →
    exec (.lookupMakeup c quot) s = .refused .reservedRomAddress) ∧
  ∀ (s : State) (sym : BitVec 6), s.phase ≠ .error → 8 < sym.toNat →
    exec (.emit sym) s = .refused .reservedRomAddress

/-- The bit lengths of all runs 0..1728 add up to the independently computed totals. Rests on R132, R186, R183. -/
def Obligations.RunBitLengthsMatchTheStandard : Prop :=
  ((List.range 1729).map fun n => totalBits (runCodes n .white)).sum = 25762 ∧
  ((List.range 1729).map fun n => totalBits (runCodes n .black)).sum = 38737 ∧
  ∀ c : Colour, ∀ q ∈ List.range' 1 40, ∃ k, wordAt (runContext c) (63 + q) = some k ∧
    runCodes (64 * q) c = k :: runCodes 0 c

/-- SCAN answers the first index right of the start whose colour differs, else n. Rests on R141, R142. The field that
holds the returned value is the model's choice (log entry 12). -/
def Obligations.ScanFindsTheNextChange : Prop :=
  ∀ (l : Buffer) (n : BitVec 12) (start : BitVec 13) (s : State),
    -1 ≤ start.toInt → n.toNat ≤ s.w → s.w ≤ Config.wMax →
    ∃ j : Nat, exec (.scan l n start) s = .next { s with result := .index j } ∧
      ((n.toNat : Int) ≤ start.toInt → j = n.toNat) ∧
      (start.toInt < n.toNat → start.toInt < j ∧ j ≤ n.toNat ∧
        (start.toInt = -1 → (∀ k < j, (s.buffer l).pixel k = .white) ∧
          (j < n.toNat → (s.buffer l).pixel j = .black)) ∧
        (0 ≤ start.toInt → (∀ k : Nat, start.toInt ≤ k → k < j →
            (s.buffer l).pixel k = (s.buffer l).pixel start.toInt.toNat) ∧
          (j < n.toNat → (s.buffer l).pixel j ≠ (s.buffer l).pixel start.toInt.toNat)))

/-- Scanning repeatedly from -1 partitions the line into maximal runs of alternating colour. States R143. -/
def Obligations.RepeatedScansPartitionTheLine : Prop :=
  ∀ (l : Buffer) (n : Nat) (s : State), n ≤ s.w → s.w ≤ Config.wMax →
    ∃ (m : Nat) (j : Nat → Nat), scanLine l n (-1) s = .ok (j 0) ∧ j m = n ∧
      (∀ k < m, j k < n ∧ j k < j (k + 1) ∧ scanLine l n (j k) s = .ok (j (k + 1))) ∧
      (∀ i < j 0, (s.buffer l).pixel i = .white) ∧
      (∀ k < m, ∀ i, j k ≤ i → i < j (k + 1) → (s.buffer l).pixel i = (s.buffer l).pixel (j k)) ∧
      (∀ k < m, (s.buffer l).pixel (j k) = if k % 2 = 0 then .black else .white) ∧
      (0 < n → (s.buffer l).pixel 0 = .black → j 0 = 0)

/-- A scan below -1 and a pixel read outside the line are refused, never answered. Rests on R144, R61, R37. That a
read at cell 2623 and above is refused also where W is larger is the model's choice (log entry 18). -/
def Obligations.ReadsOutsideTheContractAreRefused : Prop :=
  (∀ (l : Buffer) (n : BitVec 12) (start : BitVec 13) (s : State), start.toInt < -1 →
    exec (.scan l n start) s = .refused .scanStartBelowVirtual) ∧
  ∀ (l : Buffer) (i : Nat) (s : State), s.w ≤ i ∨ Config.wMax ≤ i → readPixel l i s = .error .pixelOutOfRange

/-- the 64 white and 64 black terminating codes are sent with exactly their value and length. Rests on R183, R125,
R126, R70, R93. That the operation can be issued alone, in any phase but ERROR, is the model's choice (log entries 10
and 11). -/
def Obligations.TerminatingCodesAreSent : Prop :=
  ∀ s : State, s.phase ≠ .error → s.acceptsNext 1 →
    ∀ row ∈ ([
      (.wt0, 0x35, 8), (.wt1, 0x7, 6), (.wt2, 0x7, 4), (.wt3, 0x8, 4), (.wt4, 0xB, 4), (.wt5, 0xC, 4),
      (.wt6, 0xE, 4), (.wt7, 0xF, 4), (.wt8, 0x13, 5), (.wt9, 0x14, 5), (.wt10, 0x7, 5), (.wt11, 0x8, 5),
      (.wt12, 0x8, 6), (.wt13, 0x3, 6), (.wt14, 0x34, 6), (.wt15, 0x35, 6), (.wt16, 0x2A, 6), (.wt17, 0x2B, 6),
      (.wt18, 0x27, 7), (.wt19, 0xC, 7), (.wt20, 0x8, 7), (.wt21, 0x17, 7), (.wt22, 0x3, 7), (.wt23, 0x4, 7),
      (.wt24, 0x28, 7), (.wt25, 0x2B, 7), (.wt26, 0x13, 7), (.wt27, 0x24, 7), (.wt28, 0x18, 7), (.wt29, 0x2, 8),
      (.wt30, 0x3, 8), (.wt31, 0x1A, 8), (.wt32, 0x1B, 8), (.wt33, 0x12, 8), (.wt34, 0x13, 8), (.wt35, 0x14, 8),
      (.wt36, 0x15, 8), (.wt37, 0x16, 8), (.wt38, 0x17, 8), (.wt39, 0x28, 8), (.wt40, 0x29, 8), (.wt41, 0x2A, 8),
      (.wt42, 0x2B, 8), (.wt43, 0x2C, 8), (.wt44, 0x2D, 8), (.wt45, 0x4, 8), (.wt46, 0x5, 8), (.wt47, 0xA, 8),
      (.wt48, 0xB, 8), (.wt49, 0x52, 8), (.wt50, 0x53, 8), (.wt51, 0x54, 8), (.wt52, 0x55, 8), (.wt53, 0x24, 8),
      (.wt54, 0x25, 8), (.wt55, 0x58, 8), (.wt56, 0x59, 8), (.wt57, 0x5A, 8), (.wt58, 0x5B, 8), (.wt59, 0x4A, 8),
      (.wt60, 0x4B, 8), (.wt61, 0x32, 8), (.wt62, 0x33, 8), (.wt63, 0x34, 8), (.bt0, 0x37, 10), (.bt1, 0x2, 3),
      (.bt2, 0x3, 2), (.bt3, 0x2, 2), (.bt4, 0x3, 3), (.bt5, 0x3, 4), (.bt6, 0x2, 4), (.bt7, 0x3, 5), (.bt8, 0x5, 6),
      (.bt9, 0x4, 6), (.bt10, 0x4, 7), (.bt11, 0x5, 7), (.bt12, 0x7, 7), (.bt13, 0x4, 8), (.bt14, 0x7, 8),
      (.bt15, 0x18, 9), (.bt16, 0x17, 10), (.bt17, 0x18, 10), (.bt18, 0x8, 10), (.bt19, 0x67, 11), (.bt20, 0x68, 11),
      (.bt21, 0x6C, 11), (.bt22, 0x37, 11), (.bt23, 0x28, 11), (.bt24, 0x17, 11), (.bt25, 0x18, 11),
      (.bt26, 0xCA, 12), (.bt27, 0xCB, 12), (.bt28, 0xCC, 12), (.bt29, 0xCD, 12), (.bt30, 0x68, 12),
      (.bt31, 0x69, 12), (.bt32, 0x6A, 12), (.bt33, 0x6B, 12), (.bt34, 0xD2, 12), (.bt35, 0xD3, 12),
      (.bt36, 0xD4, 12), (.bt37, 0xD5, 12), (.bt38, 0xD6, 12), (.bt39, 0xD7, 12), (.bt40, 0x6C, 12),
      (.bt41, 0x6D, 12), (.bt42, 0xDA, 12), (.bt43, 0xDB, 12), (.bt44, 0x54, 12), (.bt45, 0x55, 12),
      (.bt46, 0x56, 12), (.bt47, 0x57, 12), (.bt48, 0x64, 12), (.bt49, 0x65, 12), (.bt50, 0x52, 12),
      (.bt51, 0x53, 12), (.bt52, 0x24, 12), (.bt53, 0x37, 12), (.bt54, 0x38, 12), (.bt55, 0x27, 12),
      (.bt56, 0x28, 12), (.bt57, 0x58, 12), (.bt58, 0x59, 12), (.bt59, 0x2B, 12), (.bt60, 0x2C, 12),
      (.bt61, 0x5A, 12), (.bt62, 0x66, 12), (.bt63, 0x67, 12)]
      : List (Instr × Nat × Nat)),
      exec row.1 s = .next (s.sent [⟨BitVec.ofNat 24 row.2.1, row.2.2⟩])

/-- the 27 white, 27 black and 13 extended makeup codes are sent with exactly their value and length. Rests on R182,
R127, R128, R129, R70, R93. That the operation can be issued alone, in any phase but ERROR, is the model's choice (log
entries 10 and 11). -/
def Obligations.MakeupCodesAreSent : Prop :=
  ∀ s : State, s.phase ≠ .error → s.acceptsNext 1 →
    ∀ row ∈ ([
      (.wm64, 0x1B, 5), (.wm128, 0x12, 5), (.wm192, 0x17, 6), (.wm256, 0x37, 7), (.wm320, 0x36, 8),
      (.wm384, 0x37, 8), (.wm448, 0x64, 8), (.wm512, 0x65, 8), (.wm576, 0x68, 8), (.wm640, 0x67, 8),
      (.wm704, 0xCC, 9), (.wm768, 0xCD, 9), (.wm832, 0xD2, 9), (.wm896, 0xD3, 9), (.wm960, 0xD4, 9),
      (.wm1024, 0xD5, 9), (.wm1088, 0xD6, 9), (.wm1152, 0xD7, 9), (.wm1216, 0xD8, 9), (.wm1280, 0xD9, 9),
      (.wm1344, 0xDA, 9), (.wm1408, 0xDB, 9), (.wm1472, 0x98, 9), (.wm1536, 0x99, 9), (.wm1600, 0x9A, 9),
      (.wm1664, 0x18, 6), (.wm1728, 0x9B, 9), (.bm64, 0xF, 10), (.bm128, 0xC8, 12), (.bm192, 0xC9, 12),
      (.bm256, 0x5B, 12), (.bm320, 0x33, 12), (.bm384, 0x34, 12), (.bm448, 0x35, 12), (.bm512, 0x6C, 13),
      (.bm576, 0x6D, 13), (.bm640, 0x4A, 13), (.bm704, 0x4B, 13), (.bm768, 0x4C, 13), (.bm832, 0x4D, 13),
      (.bm896, 0x72, 13), (.bm960, 0x73, 13), (.bm1024, 0x74, 13), (.bm1088, 0x75, 13), (.bm1152, 0x76, 13),
      (.bm1216, 0x77, 13), (.bm1280, 0x52, 13), (.bm1344, 0x53, 13), (.bm1408, 0x54, 13), (.bm1472, 0x55, 13),
      (.bm1536, 0x5A, 13), (.bm1600, 0x5B, 13), (.bm1664, 0x64, 13), (.bm1728, 0x65, 13), (.xm1792, 0x8, 11),
      (.xm1856, 0xC, 11), (.xm1920, 0xD, 11), (.xm1984, 0x12, 12), (.xm2048, 0x13, 12), (.xm2112, 0x14, 12),
      (.xm2176, 0x15, 12), (.xm2240, 0x16, 12), (.xm2304, 0x17, 12), (.xm2368, 0x1C, 12), (.xm2432, 0x1D, 12),
      (.xm2496, 0x1E, 12), (.xm2560, 0x1F, 12)]
      : List (Instr × Nat × Nat)),
      exec row.1 s = .next (s.sent [⟨BitVec.ofNat 24 row.2.1, row.2.2⟩])

/-- EOFB, ALIGN and FINAL each issue their one transaction. Rests on R94, R105, R195, R72. That the operation can be
issued alone, in any phase but ERROR, is the model's choice (log entries 10 and 11). -/
def Obligations.TerminatorAlignAndFinalizeAreSent : Prop :=
  ∀ s : State, s.phase ≠ .error → s.acceptsNext 1 →
    exec .eofb s = .next (s.sent [⟨0x001001, 24⟩]) ∧
    exec .align s = .next (s.record .alignToByteBoundary true) ∧
    exec .final s = .next (s.record .finalize true)

/-- Sending codes changes the sink side of the state and nothing else. Rests on R67, R77, R70. -/
def Obligations.SendingCodesTouchesTheSinkAlone : Prop :=
  ∀ (codes : List Code) (s : State), s.sent codes = { s with
    sinkLog := s.sinkLog ++ codes.mapIdx fun k c => ⟨s.txCount + k, .writeCode c, true⟩
    sinkAnswers := s.sinkAnswers.drop codes.length
    txCount := s.txCount + codes.length }

/-- What a mode code, run code, EOFB, ALIGN or FINAL puts on the sink first is exactly the bits of its own encoding.
Rests on R91, R103, R105, R65. That the operation can be issued alone, in any phase but ERROR, is the model's choice
(log entries 10 and 11). -/
def Obligations.EmittedCodeIsTheEncodedWord : Prop :=
  ∀ (i : Instr) (tx : SinkTx) (s t : State), sendsFirst i tx → s.phase ≠ .error → s.acceptsNext 1 →
    exec i s = .next t → s.sinkLog ++ [⟨s.txCount, tx, true⟩] <+: t.sinkLog

/-- Wherever an operation issues a transaction and the sink refuses it, it raises SinkWriteFailure there and issues
nothing more. Rests on R211, R216, R250, R167, R156. That the operation can be issued alone, in any phase but ERROR,
is the model's choice (log entries 10 and 11). -/
def Obligations.EveryEmissionSitePropagatesFailure : Prop :=
  (∀ (i : Instr) (tx : SinkTx) (s : State), sendsFirst i tx → s.phase ≠ .error → s.failsNext →
    exec i s = .next { s with
      sinkLog := s.sinkLog ++ [⟨s.txCount, tx, false⟩]
      sinkAnswers := s.sinkAnswers.tail
      txCount := s.txCount + 1
      errcode := .sinkWriteFailure
      phase := .error }) ∧
  ∀ (i : Instr) (s t : State) (k : Nat) (more : List SinkAnswer), exec i s = .next t →
    s.txCount + k < t.txCount → k ≤ s.sinkAnswers.length →
    ∃ (e : SinkEvent) (u : State), t.sinkLog[s.sinkLog.length + k]? = some e ∧
      exec i (s.scripted (s.sinkAnswers.take k ++ .fail :: more)) = .next u ∧
      u.sinkLog = t.sinkLog.take (s.sinkLog.length + k) ++ [{ e with accepted := false }] ∧
      u.sinkAnswers = more ∧ u.txCount = s.txCount + k + 1 ∧ u.phase = .error ∧ u.errcode = .sinkWriteFailure

/-- Wherever an operation issues a transaction and the sink never answers it, the block is stuck inside the operation.
Rests on R253, R74. The hanging block as the fault sinkNoAnswer is the model's choice (log entry 7). That the
operation can be issued alone, in any phase but ERROR, is the model's choice (log entries 10 and 11). -/
def Obligations.SilentSinkStopsTheBlock : Prop :=
  (∀ (i : Instr) (tx : SinkTx) (s : State), sendsFirst i tx → s.phase ≠ .error →
    s.sinkAnswers.head? = some .silent → exec i s = .fault .sinkNoAnswer) ∧
  ∀ (i : Instr) (s t : State) (k : Nat) (more : List SinkAnswer), exec i s = .next t →
    s.txCount + k < t.txCount → k ≤ s.sinkAnswers.length →
    exec i (s.scripted (s.sinkAnswers.take k ++ .silent :: more)) = .fault .sinkNoAnswer

/-- EMIT sends the code of its mode symbol. Rests on R156, R121, R92. That the operation can be issued alone, in any
phase but ERROR, is the model's choice (log entries 10 and 11). -/
def Obligations.EmitSendsTheModeCode : Prop :=
  ∀ s : State, s.phase ≠ .error → s.acceptsNext 1 →
    ∀ row ∈ ([(0, 0x1, 4), (1, 0x1, 3), (2, 0x1, 1), (3, 0x3, 3), (4, 0x3, 6), (5, 0x3, 7), (6, 0x2, 3), (7, 0x2, 6),
      (8, 0x2, 7)] : List (BitVec 6 × Nat × Nat)),
      exec (.emit row.1) s = .next (s.sent [⟨BitVec.ofNat 24 row.2.1, row.2.2⟩])

/-- RUN sends the makeup code when n is 64 or more and then always the terminating code. Rests on R181, R182, R183,
R185, R99. That the operation can be issued alone, in any phase but ERROR, is the model's choice (log entries 10 and
11). -/
def Obligations.RunSendsMakeupThenTerminating : Prop :=
  ∀ (n : BitVec 12) (c : Colour) (s : State), n.toNat ≤ 2623 → s.phase ≠ .error →
    s.acceptsNext (runCodes n.toNat c).length →
    exec (.run n c) s = .next { s.sent (runCodes n.toNat c) with
      q := BitVec.ofNat 6 (n.toNat / 64)
      r := BitVec.ofNat 6 (n.toNat % 64) }

/-- RUN with n above 2623 raises RunLengthRange before anything is sent. Rests on R184, R215, R216. That the operation
can be issued alone, in any phase but ERROR, is the model's choice (log entries 10 and 11). -/
def Obligations.RunBeyondTheTablesRaises : Prop :=
  ∀ (n : BitVec 12) (c : Colour) (s : State), 2623 < n.toNat → s.phase ≠ .error →
    exec (.run n c) s = .next { s with
      q := BitVec.ofNat 6 (n.toNat / 64)
      r := BitVec.ofNat 6 (n.toNat % 64)
      errcode := .runLengthRange
      phase := .error }

/-- P sends 0001, moves A0 to B2 and keeps A0C. Rests on R154, R156. That the operation can be issued alone, in any
phase but ERROR, is the model's choice (log entries 10 and 11). -/
def Obligations.PassModeSendsItsCode : Prop :=
  ∀ s : State, s.phase ≠ .error → s.acceptsNext 1 →
    exec .p s = .next { s.sent [⟨0x1, 4⟩] with a0 := s.b2.setWidth 13 }

/-- Each of the seven vertical modes sends its code, moves A0 to A1 and flips A0C. Rests on R155, R157, R158, R159,
R160, R161, R162, R163. That the operation can be issued alone, in any phase but ERROR, is the model's choice (log
entries 10 and 11). -/
def Obligations.VerticalModesSendTheirCodes : Prop :=
  ∀ s : State, s.phase ≠ .error → s.acceptsNext 1 →
    ∀ row ∈ ([(.v0, 0x1, 1), (.vr1, 0x3, 3), (.vr2, 0x3, 6), (.vr3, 0x3, 7), (.vl1, 0x2, 3), (.vl2, 0x2, 6),
      (.vl3, 0x2, 7)] : List (Instr × Nat × Nat)),
      exec row.1 s = .next { s.sent [⟨BitVec.ofNat 24 row.2.1, row.2.2⟩] with
        a0 := s.a1.setWidth 13
        a0c := if s.a0c = .white then .black else .white }

/-- H sends its prefix and the codes of the two runs, and moves A0 to A2. Rests on R164, R181. That the operation can
be issued alone, in any phase but ERROR, is the model's choice (log entries 10 and 11). -/
def Obligations.HorizontalModeSendsTwoRuns : Prop :=
  ∀ (s : State) (j : Nat), s.phase ≠ .error → s.w ≤ Config.wMax → s.a1.toNat ≤ s.w → -1 ≤ s.a0.toInt →
    s.a0.toInt ≤ s.a1.toNat → scanLine .cur s.w s.a1.toNat s = .ok j → s.acceptsNext 5 →
    let run1 : Nat := if s.a0.toInt = -1 then s.a1.toNat else s.a1.toNat - s.a0.toNat
    let other : Colour := if s.a0c = .white then .black else .white
    exec .h s = .next { s.sent (⟨0x1, 3⟩ :: (runCodes run1 s.a0c ++ runCodes (j - s.a1.toNat) other)) with
      a0 := BitVec.ofNat 13 j
      a2 := BitVec.ofNat 12 j
      l1 := BitVec.ofNat 12 run1
      l2 := BitVec.ofNat 12 (j - s.a1.toNat)
      q := BitVec.ofNat 6 ((j - s.a1.toNat) / 64)
      r := BitVec.ofNat 6 ((j - s.a1.toNat) % 64) }

/-- H on elements that would give a negative run length is refused by name, after its prefix was accepted. Rests on
R184, R164. The refusal of a negative run is the model's choice (log entry 18). That the operation can be issued
alone, in any phase but ERROR, is the model's choice (log entries 10 and 11). -/
def Obligations.HorizontalModeRefusesNegativeRuns : Prop :=
  ∀ s : State, s.phase ≠ .error → s.acceptsNext 1 → s.w ≤ Config.wMax → -1 ≤ s.a0.toInt →
    ((s.a1.toNat : Int) < s.a0.toInt ∨ s.w < s.a1.toNat) → exec .h s = .refused .negativeRunLength

/-- Where pass mode does not apply and -3 <= A1 - B1 <= 3, the mode performed is the vertical one of that distance.
Rests on R153, R155, R100. -/
def Obligations.VerticalDistanceSelectsTheSymbol : Prop :=
  ∀ s : State, s.acceptsNext 1 → s.a1.toNat ≤ s.b2.toNat →
    ∀ row ∈ ([(0, 0x1, 1), (1, 0x3, 3), (2, 0x3, 6), (3, 0x3, 7), (-1, 0x2, 3), (-2, 0x2, 6), (-3, 0x2, 7)]
      : List (Int × Nat × Nat)),
      (s.a1.toNat : Int) - s.b1.toNat = row.1 →
      performMode s = .run { s.sent [⟨BitVec.ofNat 24 row.2.1, row.2.2⟩] with
        d := BitVec.ofInt 13 row.1
        a0 := s.a1.setWidth 13
        a0c := if s.a0c = .white then .black else .white } false

/-- With a usable reference, B1 is the first changing element of REF right of A0 with the colour opposite to A0C, and
B2 the next change. Rests on R152, R142. -/
def Obligations.B1IsTheFirstOppositeChange : Prop :=
  ∀ s : State, s.refv = true → -1 ≤ s.a0.toInt → s.a0.toInt < s.w → s.w ≤ Config.wMax →
    ∃ b1 b2 : Nat,
      detectB s = .run { s with b1 := BitVec.ofNat 12 b1, b2 := BitVec.ofNat 12 b2 } false ∧
      s.a0.toInt < b1 ∧ b1 ≤ b2 ∧ b2 ≤ s.w ∧ (b1 < s.w → b1 < b2) ∧
      (b1 < s.w → s.ref.pixel b1 ≠ s.a0c ∧ s.ref.pixel b1 ≠ s.ref.leftColour b1) ∧
      (∀ k : Nat, s.a0.toInt < k → k < b1 → s.ref.pixel k = s.a0c ∨ s.ref.pixel k = s.ref.leftColour k) ∧
      (∀ k, b1 ≤ k → k < b2 → s.ref.pixel k = s.ref.pixel b1) ∧
      (b2 < s.w → s.ref.pixel b2 ≠ s.ref.pixel b1)

/-- One iteration of the row loop sends exactly the codes of the mode the priority rule selects. Rests on R150, R151,
R152, R153, R154, R155, R164, R100. -/
def Obligations.OneIterationCodesByThePriorityRule : Prop :=
  ∀ s : State, -1 ≤ s.a0.toInt → s.a0.toInt < s.w → s.w ≤ Config.wMax → s.acceptsNext 5 →
    ∃ (a1 a2 : Nat) (d t : State) (codes : List Code),
      scanLine .cur s.w s.a0.toInt s = .ok a1 ∧ scanLine .cur s.w a1 s = .ok a2 ∧
      detectB s = .run d false ∧ rowIteration s = .run t false ∧ s.LineFrame t ∧
      t.sinkLog = (s.sent codes).sinkLog ∧ t.phase = s.phase ∧ t.errcode = s.errcode ∧
      if d.b2.toNat < a1 then codes = [⟨0x1, 4⟩] ∧ t.a0.toInt = d.b2.toNat ∧ t.a0c = s.a0c
      else if -3 ≤ (a1 : Int) - d.b1.toNat ∧ (a1 : Int) - d.b1.toNat ≤ 3 then
        codes = (wordAt .mode (if a1 = d.b1.toNat then 2 else if d.b1.toNat < a1 then 2 + (a1 - d.b1.toNat)
          else 5 + (d.b1.toNat - a1))).toList ∧
        t.a0.toInt = a1 ∧ t.a0c ≠ s.a0c
      else
        codes = ⟨0x1, 3⟩ :: (runCodes (a1 - s.a0.toInt.toNat) s.a0c ++
          runCodes (a2 - a1) (if s.a0c = .white then .black else .white)) ∧
        t.a0.toInt = a2 ∧ t.a0c = s.a0c

/-- The loop invariant of ROWENC: at the top of every iteration A0 is -1 with A0C WHITE, or a pixel of colour A0C; A0
strictly increases up to W. Rests on R165, R169, R150. -/
def Obligations.RowLoopInvariant : Prop :=
  (∀ s : State, s.startRow.onLine) ∧
  ∀ s t : State, s.onLine → s.a0.toInt < s.w → rowIteration s = .run t false →
    t.cur = s.cur ∧ t.width = s.width ∧ s.a0.toInt < t.a0.toInt ∧ t.a0.toInt ≤ s.w ∧
      (t.a0.toInt = s.w ∨ ∃ i : Nat, t.a0.toInt = i ∧ i < s.w ∧ s.cur.pixel i = t.a0c)

/-- ROWENC terminates with A0 = W after at least 1 and at most 5(W + 1) accepted codes. Rests on R150, R169, R253.
That the operation can be issued alone, in any phase but ERROR, is the model's choice (log entries 10 and 11). -/
def Obligations.RowencEndsAtTheEndOfTheLine : Prop :=
  ∀ s : State, s.phase ≠ .error → s.w ≤ Config.wMax → s.acceptsNext (5 * (s.w + 1)) →
    ∃ (t : State) (codes : List Code), exec .rowenc s = .next t ∧ t.a0.toInt = s.w ∧
      t.phase = s.phase ∧ t.errcode = s.errcode ∧ s.LineFrame t ∧
      1 ≤ codes.length ∧ codes.length ≤ 5 * (s.w + 1) ∧
      t.sinkLog = (s.sent codes).sinkLog ∧ t.sinkAnswers = s.sinkAnswers.drop codes.length ∧
      t.txCount = s.txCount + codes.length

/-- The only fault ROWENC can raise is SinkWriteFailure; RunLengthRange is unreachable for W at most 2623. Rests on
R167, R184, R210, R216. That a transaction past the script is answered is the model's choice, decision D21's premise
(log entry 7). That the operation can be issued alone, in any phase but ERROR, is the model's choice (log entries 10
and 11). -/
def Obligations.RowencFaultsOnlyByTheSink : Prop :=
  ∀ s : State, s.phase ≠ .error → s.w ≤ Config.wMax → s.answering →
    ∃ t : State, exec .rowenc s = .next t ∧ s.LineFrame t ∧
      ((t.a0.toInt = s.w ∧ t.phase = s.phase ∧ t.errcode = s.errcode) ∨
        (t.phase = .error ∧ t.errcode = .sinkWriteFailure ∧
          ∃ e c, t.sinkLog.getLast? = some e ∧ e.tx = .writeCode c ∧ e.accepted = false))

/-- Without a usable reference B1 = B2 = W: pass mode is never selected, vertical exactly when A1 >= W - 3. Rests on
R166, R152, R153. -/
def Obligations.FirstRowNeverTakesPassMode : Prop :=
  ∀ s : State, s.refv = false → -1 ≤ s.a0.toInt → s.w ≤ Config.wMax →
    ∃ t : State, (detectA1 s).andThen detectB = .run t false ∧ t.b1 = s.width ∧ t.b2 = s.width ∧
      chooseMode t ≠ .pass ∧ (chooseMode t = .vertical ↔ s.w ≤ t.a1.toNat + 3)

/-- An all-BLACK first row of width N is H WT0 B(N), or VL<N> V0 for N = 1, 2, 3. Rests on R166, R164, R161, R162,
R163. That the operation can be issued alone, in any phase but ERROR, is the model's choice (log entries 10 and 11).
-/
def Obligations.AllBlackFirstRow : Prop :=
  ∀ s : State, s.phase ≠ .error → s.refv = false → (∀ i < s.w, s.cur.pixel i = .black) → 1 ≤ s.w → s.w ≤ 2623 →
    s.acceptsNext 5 →
    ∃ t : State, exec .rowenc s = .next t ∧ t.sinkLog = (s.sent
      (if s.w = 1 then [⟨0x2, 3⟩, ⟨0x1, 1⟩] else if s.w = 2 then [⟨0x2, 6⟩, ⟨0x1, 1⟩]
        else if s.w = 3 then [⟨0x2, 7⟩, ⟨0x1, 1⟩]
        else ⟨0x1, 3⟩ :: ⟨0x35, 8⟩ :: runCodes s.w .black)).sinkLog

/-- An all-WHITE row over an all-WHITE or absent reference is the single code V0. Rests on R157, R150. That the
operation can be issued alone, in any phase but ERROR, is the model's choice (log entries 10 and 11). -/
def Obligations.AllWhiteRowIsOneV0 : Prop :=
  ∀ s : State, s.phase ≠ .error → (∀ i < s.w, s.cur.pixel i = .white) →
    (s.refv = false ∨ ∀ i < s.w, s.ref.pixel i = .white) → 1 ≤ s.w → s.w ≤ 2623 → s.acceptsNext 1 →
    ∃ t : State, exec .rowenc s = .next t ∧ t.sinkLog = (s.sent [⟨0x1, 1⟩]).sinkLog ∧ t.a0.toInt = s.w

/-- An all-WHITE reference line and no reference line encode every row alike. Rests on R168, R152. That a transaction
past the script is answered is the model's choice, decision D21's premise (log entry 7). That the operation can be
issued alone, in any phase but ERROR, is the model's choice (log entries 10 and 11). -/
def Obligations.AllWhiteReferenceEqualsNoReference : Prop :=
  ∀ s : State, s.phase ≠ .error → s.refv = true → s.w ≤ Config.wMax → s.answering →
    (∀ i < s.w, s.ref.pixel i = .white) →
    ∃ t : State, exec .rowenc s = .next t ∧ exec .rowenc { s with refv := false } = .next { t with refv := false }

/-- What ROWENC sends and where it ends depends only on the pixels, the width, REFV and the sink's answers. Rests on
R26, R243, R21, R201. That the operation can be issued alone, in any phase but ERROR, is the model's choice (log
entries 10 and 11). -/
def Obligations.RowencIgnoresStaleRegisters : Prop :=
  ∀ s u t : State, s.phase ≠ .error → u.width = s.width → u.refv = s.refv → u.cur = s.cur → u.ref = s.ref →
    u.phase = s.phase → u.errcode = s.errcode → u.sinkAnswers = s.sinkAnswers → u.txCount = s.txCount →
    exec .rowenc s = .next t →
    ∃ (v : State) (new : List SinkEvent), exec .rowenc u = .next v ∧ t.sinkLog = s.sinkLog ++ new ∧
      v.sinkLog = u.sinkLog ++ new ∧ v.a0 = t.a0 ∧ v.a0c = t.a0c ∧ v.phase = t.phase ∧ v.errcode = t.errcode

/-- WR_WIDTH and WR_CTRL store in IDLE and DONE, raise ProtocolError in PAGE and are ignored in ERROR. States R191. -/
def Obligations.ConfigurationWrites : Prop :=
  ∀ (s : State) (w : BitVec 12) (ba : Bool),
    (s.phase = .error → exec (.wrWidth w) s = .next s ∧ exec (.wrCtrl ba) s = .next s) ∧
    (s.phase = .page →
      exec (.wrWidth w) s = .next { s with errcode := .protocolError, phase := .error } ∧
      exec (.wrCtrl ba) s = .next { s with errcode := .protocolError, phase := .error }) ∧
    (s.phase = .idle ∨ s.phase = .done →
      exec (.wrWidth w) s = .next { s with width := w } ∧ exec (.wrCtrl ba) s = .next { s with ba := ba })

/-- INIT opens a page with a legal width; ConfigError, ProtocolError and the ignored case otherwise. Rests on R213,
R192, R200, R214. That CUR and REF are replaced by fresh free contents is the model's form of 'unspecified' (log entry
5). -/
def Obligations.InitOpensThePage : Prop :=
  ∀ s : State,
    (s.phase = .error → exec .init s = .next s) ∧
    (s.phase = .page → exec .init s = .next { s with errcode := .protocolError, phase := .error }) ∧
    (s.phase = .idle ∨ s.phase = .done →
      (s.w = 0 ∨ 2623 < s.w → exec .init s = .next { s with errcode := .configError, phase := .error }) ∧
      (1 ≤ s.w → s.w ≤ 2623 → ∃ cur ref free, exec .init s = .next
        { s with refv := false, loadcnt := 0, phase := .page, cur := cur, ref := ref, free := free }))

/-- PIX stores its pixel at LOADCNT and counts it; every other pixel and everything else is unchanged. Rests on R193,
R62, R35, R212. -/
def Obligations.PixStoresOnePixel : Prop :=
  ∀ (s : State) (c : Colour),
    (s.phase = .error → exec (.pix c) s = .next s) ∧
    (s.phase = .idle ∨ s.phase = .done →
      exec (.pix c) s = .next { s with errcode := .protocolError, phase := .error }) ∧
    (s.phase = .page → s.w ≤ s.loadcnt.toNat →
      exec (.pix c) s = .next { s with errcode := .malformedInput, phase := .error }) ∧
    (s.phase = .page → s.loadcnt.toNat < s.w → s.w ≤ 2623 →
      ∃ cur : Line, exec (.pix c) s = .next { s with cur := cur, loadcnt := BitVec.ofNat 12 (s.loadcnt.toNat + 1) } ∧
        ∀ i, cur.pixel i = if i = s.loadcnt.toNat then c else s.cur.pixel i)

/-- Pixels pushed one after another stand in CUR from left to right. Rests on R193, R35, R37, R62. Requests wait in an
inbox by the model's choice (log entry 1). -/
def Obligations.PushedPixelsMakeUpTheLine : Prop :=
  ∀ (pixels : List Colour) (s : State) (rest : List Request), s.phase = .page → s.w ≤ 2623 →
    s.loadcnt.toNat + pixels.length ≤ s.w → s.inbox = pixels.map (fun c => encode (.pix c)) ++ rest →
    ∃ t : State, Host.Core.run Sys2Proof.core pixels.length s = .next t ∧ t.inbox = rest ∧ t.phase = .page ∧
      t.loadcnt.toNat = s.loadcnt.toNat + pixels.length ∧ t.ref = s.ref ∧ t.sinkLog = s.sinkLog ∧
      (∀ k c, pixels[k]? = some c → t.cur.pixel (s.loadcnt.toNat + k) = c) ∧
      ∀ i < s.loadcnt.toNat, t.cur.pixel i = s.cur.pixel i

/-- ROW with LOADCNT other than W and EOFB with a partial row pending take MalformedInput before anything is sent.
Rests on R212, R194, R196, R216. -/
def Obligations.MalformedRowsSendNothing : Prop :=
  ∀ s : State, s.phase = .page →
    (s.loadcnt.toNat ≠ s.w → exec .row s = .next { s with errcode := .malformedInput, phase := .error }) ∧
    (s.loadcnt.toNat ≠ 0 → exec .eofbCmd s = .next { s with errcode := .malformedInput, phase := .error })

/-- A ROW whose transactions are all accepted sends the row's codes, aligns when BA = 1, and makes CUR the reference.
Rests on R194, R195, R63, R78. That the update moves the whole line buffer is the model's reading (log entry 21). That
ROWENC can be issued alone, in any phase but ERROR, is the model's choice (log entries 10 and 11). -/
def Obligations.RowEncodesAndAdoptsTheLine : Prop :=
  ∀ s : State, s.phase = .page → s.loadcnt.toNat = s.w → s.w ≤ Config.wMax → s.acceptsNext (5 * (s.w + 1) + 1) →
    ∃ (t u : State) (codes : List Code), exec .row s = .next t ∧ exec .rowenc s = .next u ∧
      u.sinkLog = (s.sent codes).sinkLog ∧ 1 ≤ codes.length ∧ codes.length ≤ 5 * (s.w + 1) ∧
      t.sinkLog = (if s.ba then (s.sent codes).record .alignToByteBoundary true else s.sent codes).sinkLog ∧
      t.ref = s.cur ∧ t.refv = true ∧ t.loadcnt = 0 ∧ t.phase = .page ∧ t.errcode = s.errcode ∧
      t.width = s.width ∧ t.ba = s.ba ∧ t.inbox = s.inbox ∧ t.result = s.result

/-- A ROW that fails inside ROWENC leaves REF, REFV, LOADCNT and CUR as they were; one that fails at ALIGN has updated
the reference. Rests on R194, R63, R216. That the update moves the whole line buffer is the model's reading (log entry
21). -/
def Obligations.FailedRowKeepsTheReference : Prop :=
  ∀ s t : State, s.phase = .page → s.loadcnt.toNat = s.w → exec .row s = .next t → t.phase = .error →
    (t.cur = s.cur ∧ t.ref = s.ref ∧ t.refv = s.refv ∧ t.loadcnt = s.loadcnt ∧
      (t.errcode = .runLengthRange ∨
        (t.errcode = .sinkWriteFailure ∧ ∃ n c log, t.sinkLog = log ++ [⟨n, .writeCode c, false⟩]))) ∨
    (s.ba = true ∧ t.errcode = .sinkWriteFailure ∧ t.ref = s.cur ∧ t.refv = true ∧ t.loadcnt = 0 ∧
      ∃ n log, t.sinkLog = log ++ [⟨n, .alignToByteBoundary, false⟩])

/-- The command EOFB sends the terminator, finalizes and goes to DONE; a refusal of either leaves ERROR instead. Rests
on R196, R211, R130, R216. -/
def Obligations.EofbClosesThePage : Prop :=
  ∀ s : State, s.phase = .page → s.loadcnt = 0 →
    (s.acceptsNext 2 → exec .eofbCmd s =
      .next { (s.sent [⟨0x001001, 24⟩]).record .finalize true with phase := .done }) ∧
    (s.failsNext → exec .eofbCmd s =
      .next { s.record (.writeCode ⟨0x001001, 24⟩) false with errcode := .sinkWriteFailure, phase := .error }) ∧
    (s.sinkAnswers.take 2 = [.ok, .fail] → exec .eofbCmd s =
      .next { (s.sent [⟨0x001001, 24⟩]).record .finalize false with errcode := .sinkWriteFailure, phase := .error })

/-- The output of a finished page is the bits sent, the 24-bit terminator and zero padding to a whole number of bytes.
Rests on R201, R72, R75, R76, R65. That a sink whose finalize failed counts as open is the model's choice (log entry
26). -/
def Obligations.FinishedPageEndsWithTheTerminator : Prop :=
  ∀ s : State, s.phase = .page → s.loadcnt = 0 → s.acceptsNext 2 → s.refSink.closed = false →
    ∃ (t : State) (out : List (BitVec 8)), exec .eofbCmd s = .next t ∧ t.refSink.closed = true ∧
      t.refSink.bits = s.refSink.bits ++ bitsOf 24 0x001001 ++
        List.replicate ((8 - (s.refSink.bits.length + 24) % 8) % 8) false ∧
      t.refSink.bits.length % 8 = 0 ∧ t.output = some out ∧ out.length = (s.refSink.bits.length + 24 + 7) / 8 ∧
      (s.refSink.bits.length % 8 = 0 → out.drop (out.length - 3) = [0x00, 0x10, 0x01])

/-- ALIGN pads the stream with 0 to 7 zero bits to a byte boundary, and with BA = 1 every successful ROW ends at one.
Rests on R71, R195, R66. That the operation can be issued alone, in any phase but ERROR, is the model's choice (log
entries 10 and 11). That a sink whose finalize failed counts as open is the model's choice (log entry 26). -/
def Obligations.AlignmentReachesAByteBoundary : Prop :=
  (∀ s : State, s.phase ≠ .error → s.acceptsNext 1 → s.refSink.closed = false →
    ∃ t : State, exec .align s = .next t ∧ t.refSink.closed = false ∧
      t.refSink.bits = s.refSink.bits ++ List.replicate ((8 - s.refSink.bits.length % 8) % 8) false ∧
      t.refSink.bits.length % 8 = 0) ∧
  ∀ s t : State, s.phase = .page → s.ba = true → s.refSink.closed = false → exec .row s = .next t →
    t.phase = .page → t.refSink.bits.length % 8 = 0

/-- CLEAR in every phase: IDLE, ERRCODE 0, REFV 0, LOADCNT 0, and neither the sink nor the configuration nor A0 is
touched. Rests on R197, R41, R242. -/
def Obligations.ClearReturnsToIdle : Prop :=
  ∀ s : State, ∃ t : State, exec .clear s = .next t ∧ t.phase = .idle ∧ t.errcode = .none ∧ t.refv = false ∧
    t.loadcnt = 0 ∧ t.width = s.width ∧ t.ba = s.ba ∧ t.a0 = s.a0 ∧ t.a0c = s.a0c ∧ t.sinkLog = s.sinkLog ∧
    t.sinkAnswers = s.sinkAnswers ∧ t.txCount = s.txCount ∧ t.inbox = s.inbox ∧ t.result = s.result

/-- Register reads work in every phase, return the register and have no side effect. Rests on R198, R33, R35, R30,
R31, R32, R34, R36. The field that holds the returned value is the model's choice (log entry 12). -/
def Obligations.ReadsReturnTheRegisters : Prop :=
  ∀ s : State,
    (∀ p ∈ ([(.idle, 0), (.page, 1), (.done, 2), (.error, 3)] : List (Phase × Nat)),
      ∀ e ∈ ([(.none, 0), (.sinkWriteFailure, 1), (.malformedInput, 2), (.configError, 3), (.protocolError, 4),
        (.runLengthRange, 5)] : List (ErrCode × Nat)),
      s.phase = p.1 → s.errcode = e.1 → exec .rdStatus s = .next { s with
        result := .word (BitVec.ofNat 32 (p.2 + 16 * e.2 + 256 * (if s.refv then 1 else 0))) }) ∧
    exec .rdLoadcnt s = .next { s with result := .word (BitVec.ofNat 32 s.loadcnt.toNat) } ∧
    ∀ offset : Word, s.inbox = [.hostRead offset] →
      (offset = 0x00 → step s = .next { s with inbox := [], result := .word (BitVec.ofNat 32 s.w) }) ∧
      (offset = 0x04 → step s = .next { s with inbox := [], result := .word (if s.ba then 1 else 0) }) ∧
      (offset ∉ ([0x00, 0x04, 0x0C, 0x14] : List Word) →
        step s = .next { s with inbox := [], result := .word 0 })

/-- An operation that is not legal in the current phase takes ProtocolError and has no other effect. Rests on R200,
R214, R102. -/
def Obligations.IllegalOperationsRaiseProtocolError : Prop :=
  ∀ (s : State) (w : BitVec 12) (ba : Bool) (c : Colour),
    (s.phase = .page → ∀ i ∈ ([.wrWidth w, .wrCtrl ba, .init] : List Instr),
      exec i s = .next { s with errcode := .protocolError, phase := .error }) ∧
    (s.phase = .idle ∨ s.phase = .done → ∀ i ∈ ([.pix c, .row, .eofbCmd] : List Instr),
      exec i s = .next { s with errcode := .protocolError, phase := .error }) ∧
    ∀ data : Word, s.phase ≠ .error → data.toNat % 8 ∈ [0, 5, 6, 7] → s.inbox = [.hostWrite 0x08 data] →
      step s = .next { s with inbox := [], errcode := .protocolError, phase := .error }

/-- In phase ERROR every host write except CLEAR is ignored: no state change, no transaction, no fault. Rests on R220,
R190, R219, R102. Requests wait in an inbox by the model's choice (log entry 1). -/
def Obligations.ErrorIgnoresEveryWriteButClear : Prop :=
  ∀ (s : State) (offset data : Word) (rest : List Request), s.phase = .error →
    s.inbox = .hostWrite offset data :: rest → ¬ (offset = 0x08 ∧ data.toNat % 8 = 4) →
    step s = .next { s with inbox := rest }

/-- PHASE changes only by a successful INIT, a successful EOFB, CLEAR or reset, and a fault. Rests on R190, R219, R27.
Requests wait in an inbox by the model's choice (log entry 1). -/
def Obligations.PhaseChangesOnlyAsStated : Prop :=
  ∀ (s t : State) (req : Request) (rest : List Request), s.inbox = req :: rest → step s = .next t →
    t.phase ≠ s.phase →
    t.phase = .error ∨
    (decode req = .instr .init ∧ (s.phase = .idle ∨ s.phase = .done) ∧ t.phase = .page) ∨
    (decode req = .instr .eofbCmd ∧ s.phase = .page ∧ t.phase = .done) ∨
    ((decode req = .instr .clear ∨ isReset req) ∧ t.phase = .idle)

/-- REF changes only by ROW (to CUR) or becomes unspecified with REFV = 0; CUR changes only by PIX at LOADCNT or
becomes unspecified. Rests on R245, R246, R62, R63, R37, R38. Requests wait in an inbox by the model's choice (log
entry 1). That the update moves the whole line buffer is the model's reading (log entry 21). -/
def Obligations.LineBuffersChangeOnlyAsStated : Prop :=
  ∀ (s t : State) (req : Request) (rest : List Request), s.inbox = req :: rest → step s = .next t →
    (t.ref = s.ref ∨ (decode req = .instr .row ∧ t.ref = s.cur ∧ t.refv = true) ∨
      ((decode req = .instr .init ∨ decode req = .instr .clear ∨ isReset req) ∧ t.refv = false)) ∧
    (t.cur = s.cur ∨
      (∃ c, decode req = .instr (.pix c) ∧
        ∀ i, t.cur.pixel i = if i = s.loadcnt.toNat then c else s.cur.pixel i) ∨
      decode req = .instr .init ∨ decode req = .instr .row ∨ decode req = .instr .clear ∨ isReset req)

/-- WIDTH and BA change only by their own write outside a page, or by hardware reset. Rests on R80, R247, R30, R31.
Requests wait in an inbox by the model's choice (log entry 1). -/
def Obligations.ConfigurationIsFixedInAPage : Prop :=
  ∀ (s t : State) (req : Request) (rest : List Request), s.inbox = req :: rest → step s = .next t →
    (t.width = s.width ∨ ((s.phase = .idle ∨ s.phase = .done) ∧ decode req = .instr (.wrWidth t.width)) ∨
      isReset req) ∧
    (t.ba = s.ba ∨ ((s.phase = .idle ∨ s.phase = .done) ∧ decode req = .instr (.wrCtrl t.ba)) ∨
      isReset req)

/-- A0, A0C, the temporaries, REFV, LOADCNT and ERRCODE each change only by the operations and events named for them.
Rests on R21, R22, R26, R28, R33, R35, R192, R194, R197, R216, R220. Requests wait in an inbox by the model's choice
(log entry 1); that H, P, the vertical modes, RUN and ROWENC can be issued alone is the model's choice too (log entry
10). -/
def Obligations.WorkingRegistersAndFlagsChangeOnlyAsStated : Prop :=
  ∀ (s t : State) (req : Request) (rest : List Request), s.inbox = req :: rest → step s = .next t →
    ((t.a0 = s.a0 ∧ t.a0c = s.a0c) ∨ isReset req ∨
      ∃ i ∈ ([.p, .h, .v0, .vr1, .vr2, .vr3, .vl1, .vl2, .vl3, .rowenc, .row] : List Instr), decode req = .instr i) ∧
    ((t.a1 = s.a1 ∧ t.a2 = s.a2 ∧ t.b1 = s.b1 ∧ t.b2 = s.b2 ∧ t.d = s.d ∧ t.l1 = s.l1 ∧ t.l2 = s.l2) ∨ isReset req ∨
      ∃ i ∈ ([.h, .rowenc, .row, .clear] : List Instr), decode req = .instr i) ∧
    ((t.q = s.q ∧ t.r = s.r) ∨ isReset req ∨ (∃ n c, decode req = .instr (.run n c)) ∨
      ∃ i ∈ ([.h, .rowenc, .row, .clear] : List Instr), decode req = .instr i) ∧
    (t.refv = s.refv ∨ (decode req = .instr .row ∧ s.phase = .page ∧ t.refv = true) ∨
      ((decode req = .instr .init ∨ decode req = .instr .clear ∨ isReset req) ∧ t.refv = false)) ∧
    (t.loadcnt = s.loadcnt ∨ ((∃ c, decode req = .instr (.pix c)) ∧ t.loadcnt.toNat = s.loadcnt.toNat + 1) ∨
      ((decode req = .instr .row ∨ decode req = .instr .init ∨ decode req = .instr .clear ∨ isReset req) ∧
        t.loadcnt = 0)) ∧
    (t.errcode = s.errcode ∨ (s.phase ≠ .error ∧ t.phase = .error ∧ t.errcode ≠ .none) ∨
      ((decode req = .instr .clear ∨ isReset req) ∧ t.errcode = .none))

/-- A step only appends transactions, numbered on without gaps, and after a refused one issues nothing more and takes
SinkWriteFailure. Rests on R67, R77, R211, R248, R216. Requests wait in an inbox by the model's choice (log entry 1).
-/
def Obligations.SinkTransactionsAreOrderedAndNeverRetried : Prop :=
  ∀ (s t : State) (req : Request) (rest : List Request), s.inbox = req :: rest →
    decode req ≠ .access .attachSink → step s = .next t →
    ∃ new : List SinkEvent, t.sinkLog = s.sinkLog ++ new ∧ t.txCount = s.txCount + new.length ∧
      new.map SinkEvent.number = List.range' s.txCount new.length ∧
      ∀ k e, new[k]? = some e → e.accepted = false →
        k + 1 = new.length ∧ (isReset req ∨ (t.phase = .error ∧ t.errcode = .sinkWriteFailure))
end

