-- ==== Sys2Proof/Laws/State.lean ====
section
/-! SUPPORT. One lemma per field per update of the state, each true by unfolding the update once. -/

namespace Sys2Proof.Machine

open Sys2Proof

/-! ### raise -/

@[simp] theorem State.raise_a0 (s : State) (code : ErrCode) : (s.raise code).a0 = s.a0 := rfl

@[simp] theorem State.raise_a0c (s : State) (code : ErrCode) : (s.raise code).a0c = s.a0c := rfl

@[simp] theorem State.raise_a1 (s : State) (code : ErrCode) : (s.raise code).a1 = s.a1 := rfl

@[simp] theorem State.raise_a2 (s : State) (code : ErrCode) : (s.raise code).a2 = s.a2 := rfl

@[simp] theorem State.raise_b1 (s : State) (code : ErrCode) : (s.raise code).b1 = s.b1 := rfl

@[simp] theorem State.raise_b2 (s : State) (code : ErrCode) : (s.raise code).b2 = s.b2 := rfl

@[simp] theorem State.raise_d (s : State) (code : ErrCode) : (s.raise code).d = s.d := rfl

@[simp] theorem State.raise_l1 (s : State) (code : ErrCode) : (s.raise code).l1 = s.l1 := rfl

@[simp] theorem State.raise_l2 (s : State) (code : ErrCode) : (s.raise code).l2 = s.l2 := rfl

@[simp] theorem State.raise_q (s : State) (code : ErrCode) : (s.raise code).q = s.q := rfl

@[simp] theorem State.raise_r (s : State) (code : ErrCode) : (s.raise code).r = s.r := rfl

@[simp] theorem State.raise_refv (s : State) (code : ErrCode) : (s.raise code).refv = s.refv := rfl

@[simp] theorem State.raise_errcode (s : State) (code : ErrCode) : (s.raise code).errcode = code := rfl

@[simp] theorem State.raise_width (s : State) (code : ErrCode) : (s.raise code).width = s.width := rfl

@[simp] theorem State.raise_ba (s : State) (code : ErrCode) : (s.raise code).ba = s.ba := rfl

@[simp] theorem State.raise_phase (s : State) (code : ErrCode) : (s.raise code).phase = Phase.error := rfl

@[simp] theorem State.raise_loadcnt (s : State) (code : ErrCode) : (s.raise code).loadcnt = s.loadcnt := rfl

@[simp] theorem State.raise_cur (s : State) (code : ErrCode) : (s.raise code).cur = s.cur := rfl

@[simp] theorem State.raise_ref (s : State) (code : ErrCode) : (s.raise code).ref = s.ref := rfl

@[simp] theorem State.raise_sinkLog (s : State) (code : ErrCode) : (s.raise code).sinkLog = s.sinkLog := rfl

@[simp] theorem State.raise_sinkAnswers (s : State) (code : ErrCode) : (s.raise code).sinkAnswers = s.sinkAnswers := rfl

@[simp] theorem State.raise_inbox (s : State) (code : ErrCode) : (s.raise code).inbox = s.inbox := rfl

@[simp] theorem State.raise_result (s : State) (code : ErrCode) : (s.raise code).result = s.result := rfl

@[simp] theorem State.raise_txCount (s : State) (code : ErrCode) : (s.raise code).txCount = s.txCount := rfl

@[simp] theorem State.raise_free (s : State) (code : ErrCode) : (s.raise code).free = s.free := rfl

/-! ### record -/

@[simp] theorem State.record_a0 (s : State) (tx : SinkTx) (b : Bool) : (s.record tx b).a0 = s.a0 := rfl

@[simp] theorem State.record_a0c (s : State) (tx : SinkTx) (b : Bool) : (s.record tx b).a0c = s.a0c := rfl

@[simp] theorem State.record_a1 (s : State) (tx : SinkTx) (b : Bool) : (s.record tx b).a1 = s.a1 := rfl

@[simp] theorem State.record_a2 (s : State) (tx : SinkTx) (b : Bool) : (s.record tx b).a2 = s.a2 := rfl

@[simp] theorem State.record_b1 (s : State) (tx : SinkTx) (b : Bool) : (s.record tx b).b1 = s.b1 := rfl

@[simp] theorem State.record_b2 (s : State) (tx : SinkTx) (b : Bool) : (s.record tx b).b2 = s.b2 := rfl

@[simp] theorem State.record_d (s : State) (tx : SinkTx) (b : Bool) : (s.record tx b).d = s.d := rfl

@[simp] theorem State.record_l1 (s : State) (tx : SinkTx) (b : Bool) : (s.record tx b).l1 = s.l1 := rfl

@[simp] theorem State.record_l2 (s : State) (tx : SinkTx) (b : Bool) : (s.record tx b).l2 = s.l2 := rfl

@[simp] theorem State.record_q (s : State) (tx : SinkTx) (b : Bool) : (s.record tx b).q = s.q := rfl

@[simp] theorem State.record_r (s : State) (tx : SinkTx) (b : Bool) : (s.record tx b).r = s.r := rfl

@[simp] theorem State.record_refv (s : State) (tx : SinkTx) (b : Bool) : (s.record tx b).refv = s.refv := rfl

@[simp] theorem State.record_errcode (s : State) (tx : SinkTx) (b : Bool) : (s.record tx b).errcode = s.errcode := rfl

@[simp] theorem State.record_width (s : State) (tx : SinkTx) (b : Bool) : (s.record tx b).width = s.width := rfl

@[simp] theorem State.record_ba (s : State) (tx : SinkTx) (b : Bool) : (s.record tx b).ba = s.ba := rfl

@[simp] theorem State.record_phase (s : State) (tx : SinkTx) (b : Bool) : (s.record tx b).phase = s.phase := rfl

@[simp] theorem State.record_loadcnt (s : State) (tx : SinkTx) (b : Bool) : (s.record tx b).loadcnt = s.loadcnt := rfl

@[simp] theorem State.record_cur (s : State) (tx : SinkTx) (b : Bool) : (s.record tx b).cur = s.cur := rfl

@[simp] theorem State.record_ref (s : State) (tx : SinkTx) (b : Bool) : (s.record tx b).ref = s.ref := rfl

@[simp] theorem State.record_sinkLog (s : State) (tx : SinkTx) (b : Bool) : (s.record tx b).sinkLog = s.sinkLog ++ [⟨s.txCount, tx, b⟩] := rfl

@[simp] theorem State.record_sinkAnswers (s : State) (tx : SinkTx) (b : Bool) : (s.record tx b).sinkAnswers = s.sinkAnswers.tail := rfl

@[simp] theorem State.record_inbox (s : State) (tx : SinkTx) (b : Bool) : (s.record tx b).inbox = s.inbox := rfl

@[simp] theorem State.record_result (s : State) (tx : SinkTx) (b : Bool) : (s.record tx b).result = s.result := rfl

@[simp] theorem State.record_txCount (s : State) (tx : SinkTx) (b : Bool) : (s.record tx b).txCount = s.txCount + 1 := rfl

@[simp] theorem State.record_free (s : State) (tx : SinkTx) (b : Bool) : (s.record tx b).free = s.free := rfl

/-! ### forgetCur -/

@[simp] theorem State.forgetCur_a0 (s : State) : s.forgetCur.a0 = s.a0 := rfl

@[simp] theorem State.forgetCur_a0c (s : State) : s.forgetCur.a0c = s.a0c := rfl

@[simp] theorem State.forgetCur_a1 (s : State) : s.forgetCur.a1 = s.a1 := rfl

@[simp] theorem State.forgetCur_a2 (s : State) : s.forgetCur.a2 = s.a2 := rfl

@[simp] theorem State.forgetCur_b1 (s : State) : s.forgetCur.b1 = s.b1 := rfl

@[simp] theorem State.forgetCur_b2 (s : State) : s.forgetCur.b2 = s.b2 := rfl

@[simp] theorem State.forgetCur_d (s : State) : s.forgetCur.d = s.d := rfl

@[simp] theorem State.forgetCur_l1 (s : State) : s.forgetCur.l1 = s.l1 := rfl

@[simp] theorem State.forgetCur_l2 (s : State) : s.forgetCur.l2 = s.l2 := rfl

@[simp] theorem State.forgetCur_q (s : State) : s.forgetCur.q = s.q := rfl

@[simp] theorem State.forgetCur_r (s : State) : s.forgetCur.r = s.r := rfl

@[simp] theorem State.forgetCur_refv (s : State) : s.forgetCur.refv = s.refv := rfl

@[simp] theorem State.forgetCur_errcode (s : State) : s.forgetCur.errcode = s.errcode := rfl

@[simp] theorem State.forgetCur_width (s : State) : s.forgetCur.width = s.width := rfl

@[simp] theorem State.forgetCur_ba (s : State) : s.forgetCur.ba = s.ba := rfl

@[simp] theorem State.forgetCur_phase (s : State) : s.forgetCur.phase = s.phase := rfl

@[simp] theorem State.forgetCur_loadcnt (s : State) : s.forgetCur.loadcnt = s.loadcnt := rfl

@[simp] theorem State.forgetCur_cur (s : State) : s.forgetCur.cur = ⟨s.free, []⟩ := rfl

@[simp] theorem State.forgetCur_ref (s : State) : s.forgetCur.ref = s.ref := rfl

@[simp] theorem State.forgetCur_sinkLog (s : State) : s.forgetCur.sinkLog = s.sinkLog := rfl

@[simp] theorem State.forgetCur_sinkAnswers (s : State) : s.forgetCur.sinkAnswers = s.sinkAnswers := rfl

@[simp] theorem State.forgetCur_inbox (s : State) : s.forgetCur.inbox = s.inbox := rfl

@[simp] theorem State.forgetCur_result (s : State) : s.forgetCur.result = s.result := rfl

@[simp] theorem State.forgetCur_txCount (s : State) : s.forgetCur.txCount = s.txCount := rfl

@[simp] theorem State.forgetCur_free (s : State) : s.forgetCur.free = s.free + 1 := rfl

/-! ### forgetRef -/

@[simp] theorem State.forgetRef_a0 (s : State) : s.forgetRef.a0 = s.a0 := rfl

@[simp] theorem State.forgetRef_a0c (s : State) : s.forgetRef.a0c = s.a0c := rfl

@[simp] theorem State.forgetRef_a1 (s : State) : s.forgetRef.a1 = s.a1 := rfl

@[simp] theorem State.forgetRef_a2 (s : State) : s.forgetRef.a2 = s.a2 := rfl

@[simp] theorem State.forgetRef_b1 (s : State) : s.forgetRef.b1 = s.b1 := rfl

@[simp] theorem State.forgetRef_b2 (s : State) : s.forgetRef.b2 = s.b2 := rfl

@[simp] theorem State.forgetRef_d (s : State) : s.forgetRef.d = s.d := rfl

@[simp] theorem State.forgetRef_l1 (s : State) : s.forgetRef.l1 = s.l1 := rfl

@[simp] theorem State.forgetRef_l2 (s : State) : s.forgetRef.l2 = s.l2 := rfl

@[simp] theorem State.forgetRef_q (s : State) : s.forgetRef.q = s.q := rfl

@[simp] theorem State.forgetRef_r (s : State) : s.forgetRef.r = s.r := rfl

@[simp] theorem State.forgetRef_refv (s : State) : s.forgetRef.refv = s.refv := rfl

@[simp] theorem State.forgetRef_errcode (s : State) : s.forgetRef.errcode = s.errcode := rfl

@[simp] theorem State.forgetRef_width (s : State) : s.forgetRef.width = s.width := rfl

@[simp] theorem State.forgetRef_ba (s : State) : s.forgetRef.ba = s.ba := rfl

@[simp] theorem State.forgetRef_phase (s : State) : s.forgetRef.phase = s.phase := rfl

@[simp] theorem State.forgetRef_loadcnt (s : State) : s.forgetRef.loadcnt = s.loadcnt := rfl

@[simp] theorem State.forgetRef_cur (s : State) : s.forgetRef.cur = s.cur := rfl

@[simp] theorem State.forgetRef_ref (s : State) : s.forgetRef.ref = ⟨s.free, []⟩ := rfl

@[simp] theorem State.forgetRef_sinkLog (s : State) : s.forgetRef.sinkLog = s.sinkLog := rfl

@[simp] theorem State.forgetRef_sinkAnswers (s : State) : s.forgetRef.sinkAnswers = s.sinkAnswers := rfl

@[simp] theorem State.forgetRef_inbox (s : State) : s.forgetRef.inbox = s.inbox := rfl

@[simp] theorem State.forgetRef_result (s : State) : s.forgetRef.result = s.result := rfl

@[simp] theorem State.forgetRef_txCount (s : State) : s.forgetRef.txCount = s.txCount := rfl

@[simp] theorem State.forgetRef_free (s : State) : s.forgetRef.free = s.free + 1 := rfl

/-! ### forgetTemps -/

@[simp] theorem State.forgetTemps_a0 (s : State) : s.forgetTemps.a0 = s.a0 := rfl

@[simp] theorem State.forgetTemps_a0c (s : State) : s.forgetTemps.a0c = s.a0c := rfl

@[simp] theorem State.forgetTemps_a1 (s : State) : s.forgetTemps.a1 = Config.freeReg 12 s.free 0 := rfl

@[simp] theorem State.forgetTemps_a2 (s : State) : s.forgetTemps.a2 = Config.freeReg 12 s.free 1 := rfl

@[simp] theorem State.forgetTemps_b1 (s : State) : s.forgetTemps.b1 = Config.freeReg 12 s.free 2 := rfl

@[simp] theorem State.forgetTemps_b2 (s : State) : s.forgetTemps.b2 = Config.freeReg 12 s.free 3 := rfl

@[simp] theorem State.forgetTemps_d (s : State) : s.forgetTemps.d = Config.freeReg 13 s.free 4 := rfl

@[simp] theorem State.forgetTemps_l1 (s : State) : s.forgetTemps.l1 = Config.freeReg 12 s.free 5 := rfl

@[simp] theorem State.forgetTemps_l2 (s : State) : s.forgetTemps.l2 = Config.freeReg 12 s.free 6 := rfl

@[simp] theorem State.forgetTemps_q (s : State) : s.forgetTemps.q = Config.freeReg 6 s.free 7 := rfl

@[simp] theorem State.forgetTemps_r (s : State) : s.forgetTemps.r = Config.freeReg 6 s.free 8 := rfl

@[simp] theorem State.forgetTemps_refv (s : State) : s.forgetTemps.refv = s.refv := rfl

@[simp] theorem State.forgetTemps_errcode (s : State) : s.forgetTemps.errcode = s.errcode := rfl

@[simp] theorem State.forgetTemps_width (s : State) : s.forgetTemps.width = s.width := rfl

@[simp] theorem State.forgetTemps_ba (s : State) : s.forgetTemps.ba = s.ba := rfl

@[simp] theorem State.forgetTemps_phase (s : State) : s.forgetTemps.phase = s.phase := rfl

@[simp] theorem State.forgetTemps_loadcnt (s : State) : s.forgetTemps.loadcnt = s.loadcnt := rfl

@[simp] theorem State.forgetTemps_cur (s : State) : s.forgetTemps.cur = s.cur := rfl

@[simp] theorem State.forgetTemps_ref (s : State) : s.forgetTemps.ref = s.ref := rfl

@[simp] theorem State.forgetTemps_sinkLog (s : State) : s.forgetTemps.sinkLog = s.sinkLog := rfl

@[simp] theorem State.forgetTemps_sinkAnswers (s : State) : s.forgetTemps.sinkAnswers = s.sinkAnswers := rfl

@[simp] theorem State.forgetTemps_inbox (s : State) : s.forgetTemps.inbox = s.inbox := rfl

@[simp] theorem State.forgetTemps_result (s : State) : s.forgetTemps.result = s.result := rfl

@[simp] theorem State.forgetTemps_txCount (s : State) : s.forgetTemps.txCount = s.txCount := rfl

@[simp] theorem State.forgetTemps_free (s : State) : s.forgetTemps.free = s.free + 1 := rfl

/-! ### give -/

@[simp] theorem State.give_a0 (s : State) (v : Result) : (s.give v).a0 = s.a0 := rfl

@[simp] theorem State.give_a0c (s : State) (v : Result) : (s.give v).a0c = s.a0c := rfl

@[simp] theorem State.give_a1 (s : State) (v : Result) : (s.give v).a1 = s.a1 := rfl

@[simp] theorem State.give_a2 (s : State) (v : Result) : (s.give v).a2 = s.a2 := rfl

@[simp] theorem State.give_b1 (s : State) (v : Result) : (s.give v).b1 = s.b1 := rfl

@[simp] theorem State.give_b2 (s : State) (v : Result) : (s.give v).b2 = s.b2 := rfl

@[simp] theorem State.give_d (s : State) (v : Result) : (s.give v).d = s.d := rfl

@[simp] theorem State.give_l1 (s : State) (v : Result) : (s.give v).l1 = s.l1 := rfl

@[simp] theorem State.give_l2 (s : State) (v : Result) : (s.give v).l2 = s.l2 := rfl

@[simp] theorem State.give_q (s : State) (v : Result) : (s.give v).q = s.q := rfl

@[simp] theorem State.give_r (s : State) (v : Result) : (s.give v).r = s.r := rfl

@[simp] theorem State.give_refv (s : State) (v : Result) : (s.give v).refv = s.refv := rfl

@[simp] theorem State.give_errcode (s : State) (v : Result) : (s.give v).errcode = s.errcode := rfl

@[simp] theorem State.give_width (s : State) (v : Result) : (s.give v).width = s.width := rfl

@[simp] theorem State.give_ba (s : State) (v : Result) : (s.give v).ba = s.ba := rfl

@[simp] theorem State.give_phase (s : State) (v : Result) : (s.give v).phase = s.phase := rfl

@[simp] theorem State.give_loadcnt (s : State) (v : Result) : (s.give v).loadcnt = s.loadcnt := rfl

@[simp] theorem State.give_cur (s : State) (v : Result) : (s.give v).cur = s.cur := rfl

@[simp] theorem State.give_ref (s : State) (v : Result) : (s.give v).ref = s.ref := rfl

@[simp] theorem State.give_sinkLog (s : State) (v : Result) : (s.give v).sinkLog = s.sinkLog := rfl

@[simp] theorem State.give_sinkAnswers (s : State) (v : Result) : (s.give v).sinkAnswers = s.sinkAnswers := rfl

@[simp] theorem State.give_inbox (s : State) (v : Result) : (s.give v).inbox = s.inbox := rfl

@[simp] theorem State.give_result (s : State) (v : Result) : (s.give v).result = v := rfl

@[simp] theorem State.give_txCount (s : State) (v : Result) : (s.give v).txCount = s.txCount := rfl

@[simp] theorem State.give_free (s : State) (v : Result) : (s.give v).free = s.free := rfl

/-! ### splitRun -/

@[simp] theorem State.splitRun_a0 (s : State) (n : Nat) : (s.splitRun n).a0 = s.a0 := rfl

@[simp] theorem State.splitRun_a0c (s : State) (n : Nat) : (s.splitRun n).a0c = s.a0c := rfl

@[simp] theorem State.splitRun_a1 (s : State) (n : Nat) : (s.splitRun n).a1 = s.a1 := rfl

@[simp] theorem State.splitRun_a2 (s : State) (n : Nat) : (s.splitRun n).a2 = s.a2 := rfl

@[simp] theorem State.splitRun_b1 (s : State) (n : Nat) : (s.splitRun n).b1 = s.b1 := rfl

@[simp] theorem State.splitRun_b2 (s : State) (n : Nat) : (s.splitRun n).b2 = s.b2 := rfl

@[simp] theorem State.splitRun_d (s : State) (n : Nat) : (s.splitRun n).d = s.d := rfl

@[simp] theorem State.splitRun_l1 (s : State) (n : Nat) : (s.splitRun n).l1 = s.l1 := rfl

@[simp] theorem State.splitRun_l2 (s : State) (n : Nat) : (s.splitRun n).l2 = s.l2 := rfl

@[simp] theorem State.splitRun_q (s : State) (n : Nat) : (s.splitRun n).q = BitVec.ofNat 6 (n / 64) := rfl

@[simp] theorem State.splitRun_r (s : State) (n : Nat) : (s.splitRun n).r = BitVec.ofNat 6 (n % 64) := rfl

@[simp] theorem State.splitRun_refv (s : State) (n : Nat) : (s.splitRun n).refv = s.refv := rfl

@[simp] theorem State.splitRun_errcode (s : State) (n : Nat) : (s.splitRun n).errcode = s.errcode := rfl

@[simp] theorem State.splitRun_width (s : State) (n : Nat) : (s.splitRun n).width = s.width := rfl

@[simp] theorem State.splitRun_ba (s : State) (n : Nat) : (s.splitRun n).ba = s.ba := rfl

@[simp] theorem State.splitRun_phase (s : State) (n : Nat) : (s.splitRun n).phase = s.phase := rfl

@[simp] theorem State.splitRun_loadcnt (s : State) (n : Nat) : (s.splitRun n).loadcnt = s.loadcnt := rfl

@[simp] theorem State.splitRun_cur (s : State) (n : Nat) : (s.splitRun n).cur = s.cur := rfl

@[simp] theorem State.splitRun_ref (s : State) (n : Nat) : (s.splitRun n).ref = s.ref := rfl

@[simp] theorem State.splitRun_sinkLog (s : State) (n : Nat) : (s.splitRun n).sinkLog = s.sinkLog := rfl

@[simp] theorem State.splitRun_sinkAnswers (s : State) (n : Nat) : (s.splitRun n).sinkAnswers = s.sinkAnswers := rfl

@[simp] theorem State.splitRun_inbox (s : State) (n : Nat) : (s.splitRun n).inbox = s.inbox := rfl

@[simp] theorem State.splitRun_result (s : State) (n : Nat) : (s.splitRun n).result = s.result := rfl

@[simp] theorem State.splitRun_txCount (s : State) (n : Nat) : (s.splitRun n).txCount = s.txCount := rfl

@[simp] theorem State.splitRun_free (s : State) (n : Nat) : (s.splitRun n).free = s.free := rfl

/-! ### startRow -/

@[simp] theorem State.startRow_a0 (s : State) : s.startRow.a0 = BitVec.ofInt 13 (-1) := rfl

@[simp] theorem State.startRow_a0c (s : State) : s.startRow.a0c = Colour.white := rfl

@[simp] theorem State.startRow_a1 (s : State) : s.startRow.a1 = s.a1 := rfl

@[simp] theorem State.startRow_a2 (s : State) : s.startRow.a2 = s.a2 := rfl

@[simp] theorem State.startRow_b1 (s : State) : s.startRow.b1 = s.b1 := rfl

@[simp] theorem State.startRow_b2 (s : State) : s.startRow.b2 = s.b2 := rfl

@[simp] theorem State.startRow_d (s : State) : s.startRow.d = s.d := rfl

@[simp] theorem State.startRow_l1 (s : State) : s.startRow.l1 = s.l1 := rfl

@[simp] theorem State.startRow_l2 (s : State) : s.startRow.l2 = s.l2 := rfl

@[simp] theorem State.startRow_q (s : State) : s.startRow.q = s.q := rfl

@[simp] theorem State.startRow_r (s : State) : s.startRow.r = s.r := rfl

@[simp] theorem State.startRow_refv (s : State) : s.startRow.refv = s.refv := rfl

@[simp] theorem State.startRow_errcode (s : State) : s.startRow.errcode = s.errcode := rfl

@[simp] theorem State.startRow_width (s : State) : s.startRow.width = s.width := rfl

@[simp] theorem State.startRow_ba (s : State) : s.startRow.ba = s.ba := rfl

@[simp] theorem State.startRow_phase (s : State) : s.startRow.phase = s.phase := rfl

@[simp] theorem State.startRow_loadcnt (s : State) : s.startRow.loadcnt = s.loadcnt := rfl

@[simp] theorem State.startRow_cur (s : State) : s.startRow.cur = s.cur := rfl

@[simp] theorem State.startRow_ref (s : State) : s.startRow.ref = s.ref := rfl

@[simp] theorem State.startRow_sinkLog (s : State) : s.startRow.sinkLog = s.sinkLog := rfl

@[simp] theorem State.startRow_sinkAnswers (s : State) : s.startRow.sinkAnswers = s.sinkAnswers := rfl

@[simp] theorem State.startRow_inbox (s : State) : s.startRow.inbox = s.inbox := rfl

@[simp] theorem State.startRow_result (s : State) : s.startRow.result = s.result := rfl

@[simp] theorem State.startRow_txCount (s : State) : s.startRow.txCount = s.txCount := rfl

@[simp] theorem State.startRow_free (s : State) : s.startRow.free = s.free := rfl

/-! ### sinkRefused -/

@[simp] theorem State.sinkRefused_a0 (s : State) (tx : SinkTx) : (s.sinkRefused tx).a0 = s.a0 := rfl

@[simp] theorem State.sinkRefused_a0c (s : State) (tx : SinkTx) : (s.sinkRefused tx).a0c = s.a0c := rfl

@[simp] theorem State.sinkRefused_a1 (s : State) (tx : SinkTx) : (s.sinkRefused tx).a1 = s.a1 := rfl

@[simp] theorem State.sinkRefused_a2 (s : State) (tx : SinkTx) : (s.sinkRefused tx).a2 = s.a2 := rfl

@[simp] theorem State.sinkRefused_b1 (s : State) (tx : SinkTx) : (s.sinkRefused tx).b1 = s.b1 := rfl

@[simp] theorem State.sinkRefused_b2 (s : State) (tx : SinkTx) : (s.sinkRefused tx).b2 = s.b2 := rfl

@[simp] theorem State.sinkRefused_d (s : State) (tx : SinkTx) : (s.sinkRefused tx).d = s.d := rfl

@[simp] theorem State.sinkRefused_l1 (s : State) (tx : SinkTx) : (s.sinkRefused tx).l1 = s.l1 := rfl

@[simp] theorem State.sinkRefused_l2 (s : State) (tx : SinkTx) : (s.sinkRefused tx).l2 = s.l2 := rfl

@[simp] theorem State.sinkRefused_q (s : State) (tx : SinkTx) : (s.sinkRefused tx).q = s.q := rfl

@[simp] theorem State.sinkRefused_r (s : State) (tx : SinkTx) : (s.sinkRefused tx).r = s.r := rfl

@[simp] theorem State.sinkRefused_refv (s : State) (tx : SinkTx) : (s.sinkRefused tx).refv = s.refv := rfl

@[simp] theorem State.sinkRefused_errcode (s : State) (tx : SinkTx) : (s.sinkRefused tx).errcode = .sinkWriteFailure := rfl

@[simp] theorem State.sinkRefused_width (s : State) (tx : SinkTx) : (s.sinkRefused tx).width = s.width := rfl

@[simp] theorem State.sinkRefused_ba (s : State) (tx : SinkTx) : (s.sinkRefused tx).ba = s.ba := rfl

@[simp] theorem State.sinkRefused_phase (s : State) (tx : SinkTx) : (s.sinkRefused tx).phase = Phase.error := rfl

@[simp] theorem State.sinkRefused_loadcnt (s : State) (tx : SinkTx) : (s.sinkRefused tx).loadcnt = s.loadcnt := rfl

@[simp] theorem State.sinkRefused_cur (s : State) (tx : SinkTx) : (s.sinkRefused tx).cur = s.cur := rfl

@[simp] theorem State.sinkRefused_ref (s : State) (tx : SinkTx) : (s.sinkRefused tx).ref = s.ref := rfl

@[simp] theorem State.sinkRefused_sinkLog (s : State) (tx : SinkTx) : (s.sinkRefused tx).sinkLog = s.sinkLog ++ [⟨s.txCount, tx, false⟩] := rfl

@[simp] theorem State.sinkRefused_sinkAnswers (s : State) (tx : SinkTx) : (s.sinkRefused tx).sinkAnswers = s.sinkAnswers.tail := rfl

@[simp] theorem State.sinkRefused_inbox (s : State) (tx : SinkTx) : (s.sinkRefused tx).inbox = s.inbox := rfl

@[simp] theorem State.sinkRefused_result (s : State) (tx : SinkTx) : (s.sinkRefused tx).result = s.result := rfl

@[simp] theorem State.sinkRefused_txCount (s : State) (tx : SinkTx) : (s.sinkRefused tx).txCount = s.txCount + 1 := rfl

@[simp] theorem State.sinkRefused_free (s : State) (tx : SinkTx) : (s.sinkRefused tx).free = s.free := rfl

/-! ### cleared -/

@[simp] theorem State.cleared_a0 (s : State) : s.cleared.a0 = s.a0 := rfl

@[simp] theorem State.cleared_a0c (s : State) : s.cleared.a0c = s.a0c := rfl

@[simp] theorem State.cleared_a1 (s : State) : s.cleared.a1 = Config.freeReg 12 (s.free + 2) 0 := rfl

@[simp] theorem State.cleared_a2 (s : State) : s.cleared.a2 = Config.freeReg 12 (s.free + 2) 1 := rfl

@[simp] theorem State.cleared_b1 (s : State) : s.cleared.b1 = Config.freeReg 12 (s.free + 2) 2 := rfl

@[simp] theorem State.cleared_b2 (s : State) : s.cleared.b2 = Config.freeReg 12 (s.free + 2) 3 := rfl

@[simp] theorem State.cleared_d (s : State) : s.cleared.d = Config.freeReg 13 (s.free + 2) 4 := rfl

@[simp] theorem State.cleared_l1 (s : State) : s.cleared.l1 = Config.freeReg 12 (s.free + 2) 5 := rfl

@[simp] theorem State.cleared_l2 (s : State) : s.cleared.l2 = Config.freeReg 12 (s.free + 2) 6 := rfl

@[simp] theorem State.cleared_q (s : State) : s.cleared.q = Config.freeReg 6 (s.free + 2) 7 := rfl

@[simp] theorem State.cleared_r (s : State) : s.cleared.r = Config.freeReg 6 (s.free + 2) 8 := rfl

@[simp] theorem State.cleared_refv (s : State) : s.cleared.refv = false := rfl

@[simp] theorem State.cleared_errcode (s : State) : s.cleared.errcode = .none := rfl

@[simp] theorem State.cleared_width (s : State) : s.cleared.width = s.width := rfl

@[simp] theorem State.cleared_ba (s : State) : s.cleared.ba = s.ba := rfl

@[simp] theorem State.cleared_phase (s : State) : s.cleared.phase = .idle := rfl

@[simp] theorem State.cleared_loadcnt (s : State) : s.cleared.loadcnt = 0 := rfl

@[simp] theorem State.cleared_cur (s : State) : s.cleared.cur = ⟨s.free, []⟩ := rfl

@[simp] theorem State.cleared_ref (s : State) : s.cleared.ref = ⟨s.free + 1, []⟩ := rfl

@[simp] theorem State.cleared_sinkLog (s : State) : s.cleared.sinkLog = s.sinkLog := rfl

@[simp] theorem State.cleared_sinkAnswers (s : State) : s.cleared.sinkAnswers = s.sinkAnswers := rfl

@[simp] theorem State.cleared_inbox (s : State) : s.cleared.inbox = s.inbox := rfl

@[simp] theorem State.cleared_result (s : State) : s.cleared.result = s.result := rfl

@[simp] theorem State.cleared_txCount (s : State) : s.cleared.txCount = s.txCount := rfl

@[simp] theorem State.cleared_free (s : State) : s.cleared.free = s.free + 3 := rfl

/-! ### hardwareReset -/

@[simp] theorem State.hardwareReset_a0 (s : State) : s.hardwareReset.a0 = BitVec.ofInt 13 (-1) := rfl

@[simp] theorem State.hardwareReset_a0c (s : State) : s.hardwareReset.a0c = .white := rfl

@[simp] theorem State.hardwareReset_a1 (s : State) : s.hardwareReset.a1 = 0 := rfl

@[simp] theorem State.hardwareReset_a2 (s : State) : s.hardwareReset.a2 = 0 := rfl

@[simp] theorem State.hardwareReset_b1 (s : State) : s.hardwareReset.b1 = 0 := rfl

@[simp] theorem State.hardwareReset_b2 (s : State) : s.hardwareReset.b2 = 0 := rfl

@[simp] theorem State.hardwareReset_d (s : State) : s.hardwareReset.d = 0 := rfl

@[simp] theorem State.hardwareReset_l1 (s : State) : s.hardwareReset.l1 = 0 := rfl

@[simp] theorem State.hardwareReset_l2 (s : State) : s.hardwareReset.l2 = 0 := rfl

@[simp] theorem State.hardwareReset_q (s : State) : s.hardwareReset.q = 0 := rfl

@[simp] theorem State.hardwareReset_r (s : State) : s.hardwareReset.r = 0 := rfl

@[simp] theorem State.hardwareReset_refv (s : State) : s.hardwareReset.refv = false := rfl

@[simp] theorem State.hardwareReset_errcode (s : State) : s.hardwareReset.errcode = .none := rfl

@[simp] theorem State.hardwareReset_width (s : State) : s.hardwareReset.width = 0 := rfl

@[simp] theorem State.hardwareReset_ba (s : State) : s.hardwareReset.ba = false := rfl

@[simp] theorem State.hardwareReset_phase (s : State) : s.hardwareReset.phase = .idle := rfl

@[simp] theorem State.hardwareReset_loadcnt (s : State) : s.hardwareReset.loadcnt = 0 := rfl

@[simp] theorem State.hardwareReset_cur (s : State) : s.hardwareReset.cur = ⟨s.free, []⟩ := rfl

@[simp] theorem State.hardwareReset_ref (s : State) : s.hardwareReset.ref = ⟨s.free + 1, []⟩ := rfl

@[simp] theorem State.hardwareReset_sinkLog (s : State) : s.hardwareReset.sinkLog = s.sinkLog := rfl

@[simp] theorem State.hardwareReset_sinkAnswers (s : State) : s.hardwareReset.sinkAnswers = s.sinkAnswers := rfl

@[simp] theorem State.hardwareReset_inbox (s : State) : s.hardwareReset.inbox = s.inbox := rfl

@[simp] theorem State.hardwareReset_result (s : State) : s.hardwareReset.result = s.result := rfl

@[simp] theorem State.hardwareReset_txCount (s : State) : s.hardwareReset.txCount = s.txCount := rfl

@[simp] theorem State.hardwareReset_free (s : State) : s.hardwareReset.free = s.free + 2 := rfl

/-! ### abandoned -/

@[simp] theorem State.abandoned_a0 (s : State) (l : List SinkEvent) : (s.abandoned l).a0 = BitVec.ofInt 13 (-1) := rfl

@[simp] theorem State.abandoned_a0c (s : State) (l : List SinkEvent) : (s.abandoned l).a0c = .white := rfl

@[simp] theorem State.abandoned_a1 (s : State) (l : List SinkEvent) : (s.abandoned l).a1 = 0 := rfl

@[simp] theorem State.abandoned_a2 (s : State) (l : List SinkEvent) : (s.abandoned l).a2 = 0 := rfl

@[simp] theorem State.abandoned_b1 (s : State) (l : List SinkEvent) : (s.abandoned l).b1 = 0 := rfl

@[simp] theorem State.abandoned_b2 (s : State) (l : List SinkEvent) : (s.abandoned l).b2 = 0 := rfl

@[simp] theorem State.abandoned_d (s : State) (l : List SinkEvent) : (s.abandoned l).d = 0 := rfl

@[simp] theorem State.abandoned_l1 (s : State) (l : List SinkEvent) : (s.abandoned l).l1 = 0 := rfl

@[simp] theorem State.abandoned_l2 (s : State) (l : List SinkEvent) : (s.abandoned l).l2 = 0 := rfl

@[simp] theorem State.abandoned_q (s : State) (l : List SinkEvent) : (s.abandoned l).q = 0 := rfl

@[simp] theorem State.abandoned_r (s : State) (l : List SinkEvent) : (s.abandoned l).r = 0 := rfl

@[simp] theorem State.abandoned_refv (s : State) (l : List SinkEvent) : (s.abandoned l).refv = false := rfl

@[simp] theorem State.abandoned_errcode (s : State) (l : List SinkEvent) : (s.abandoned l).errcode = .none := rfl

@[simp] theorem State.abandoned_width (s : State) (l : List SinkEvent) : (s.abandoned l).width = 0 := rfl

@[simp] theorem State.abandoned_ba (s : State) (l : List SinkEvent) : (s.abandoned l).ba = false := rfl

@[simp] theorem State.abandoned_phase (s : State) (l : List SinkEvent) : (s.abandoned l).phase = .idle := rfl

@[simp] theorem State.abandoned_loadcnt (s : State) (l : List SinkEvent) : (s.abandoned l).loadcnt = 0 := rfl

@[simp] theorem State.abandoned_cur (s : State) (l : List SinkEvent) : (s.abandoned l).cur = ⟨s.free, []⟩ := rfl

@[simp] theorem State.abandoned_ref (s : State) (l : List SinkEvent) : (s.abandoned l).ref = ⟨s.free + 1, []⟩ := rfl

@[simp] theorem State.abandoned_sinkLog (s : State) (l : List SinkEvent) : (s.abandoned l).sinkLog = s.sinkLog ++ l := rfl

@[simp] theorem State.abandoned_sinkAnswers (s : State) (l : List SinkEvent) : (s.abandoned l).sinkAnswers = s.sinkAnswers.drop l.length := rfl

@[simp] theorem State.abandoned_inbox (s : State) (l : List SinkEvent) : (s.abandoned l).inbox = s.inbox := rfl

@[simp] theorem State.abandoned_result (s : State) (l : List SinkEvent) : (s.abandoned l).result = s.result := rfl

@[simp] theorem State.abandoned_txCount (s : State) (l : List SinkEvent) : (s.abandoned l).txCount = s.txCount + l.length := rfl

@[simp] theorem State.abandoned_free (s : State) (l : List SinkEvent) : (s.abandoned l).free = s.free + 2 := rfl

/-! ### scripted -/

@[simp] theorem State.scripted_a0 (s : State) (answers : List SinkAnswer) : (s.scripted answers).a0 = s.a0 := rfl

@[simp] theorem State.scripted_a0c (s : State) (answers : List SinkAnswer) : (s.scripted answers).a0c = s.a0c := rfl

@[simp] theorem State.scripted_a1 (s : State) (answers : List SinkAnswer) : (s.scripted answers).a1 = s.a1 := rfl

@[simp] theorem State.scripted_a2 (s : State) (answers : List SinkAnswer) : (s.scripted answers).a2 = s.a2 := rfl

@[simp] theorem State.scripted_b1 (s : State) (answers : List SinkAnswer) : (s.scripted answers).b1 = s.b1 := rfl

@[simp] theorem State.scripted_b2 (s : State) (answers : List SinkAnswer) : (s.scripted answers).b2 = s.b2 := rfl

@[simp] theorem State.scripted_d (s : State) (answers : List SinkAnswer) : (s.scripted answers).d = s.d := rfl

@[simp] theorem State.scripted_l1 (s : State) (answers : List SinkAnswer) : (s.scripted answers).l1 = s.l1 := rfl

@[simp] theorem State.scripted_l2 (s : State) (answers : List SinkAnswer) : (s.scripted answers).l2 = s.l2 := rfl

@[simp] theorem State.scripted_q (s : State) (answers : List SinkAnswer) : (s.scripted answers).q = s.q := rfl

@[simp] theorem State.scripted_r (s : State) (answers : List SinkAnswer) : (s.scripted answers).r = s.r := rfl

@[simp] theorem State.scripted_refv (s : State) (answers : List SinkAnswer) : (s.scripted answers).refv = s.refv := rfl

@[simp] theorem State.scripted_errcode (s : State) (answers : List SinkAnswer) : (s.scripted answers).errcode = s.errcode := rfl

@[simp] theorem State.scripted_width (s : State) (answers : List SinkAnswer) : (s.scripted answers).width = s.width := rfl

@[simp] theorem State.scripted_ba (s : State) (answers : List SinkAnswer) : (s.scripted answers).ba = s.ba := rfl

@[simp] theorem State.scripted_phase (s : State) (answers : List SinkAnswer) : (s.scripted answers).phase = s.phase := rfl

@[simp] theorem State.scripted_loadcnt (s : State) (answers : List SinkAnswer) : (s.scripted answers).loadcnt = s.loadcnt := rfl

@[simp] theorem State.scripted_cur (s : State) (answers : List SinkAnswer) : (s.scripted answers).cur = s.cur := rfl

@[simp] theorem State.scripted_ref (s : State) (answers : List SinkAnswer) : (s.scripted answers).ref = s.ref := rfl

@[simp] theorem State.scripted_sinkLog (s : State) (answers : List SinkAnswer) : (s.scripted answers).sinkLog = s.sinkLog := rfl

@[simp] theorem State.scripted_sinkAnswers (s : State) (answers : List SinkAnswer) : (s.scripted answers).sinkAnswers = answers := rfl

@[simp] theorem State.scripted_inbox (s : State) (answers : List SinkAnswer) : (s.scripted answers).inbox = s.inbox := rfl

@[simp] theorem State.scripted_result (s : State) (answers : List SinkAnswer) : (s.scripted answers).result = s.result := rfl

@[simp] theorem State.scripted_txCount (s : State) (answers : List SinkAnswer) : (s.scripted answers).txCount = s.txCount := rfl

@[simp] theorem State.scripted_free (s : State) (answers : List SinkAnswer) : (s.scripted answers).free = s.free := rfl

/-! ### adoptRow -/

@[simp] theorem State.adoptRow_a0 (s : State) : s.adoptRow.a0 = s.a0 := rfl

@[simp] theorem State.adoptRow_a0c (s : State) : s.adoptRow.a0c = s.a0c := rfl

@[simp] theorem State.adoptRow_a1 (s : State) : s.adoptRow.a1 = s.a1 := rfl

@[simp] theorem State.adoptRow_a2 (s : State) : s.adoptRow.a2 = s.a2 := rfl

@[simp] theorem State.adoptRow_b1 (s : State) : s.adoptRow.b1 = s.b1 := rfl

@[simp] theorem State.adoptRow_b2 (s : State) : s.adoptRow.b2 = s.b2 := rfl

@[simp] theorem State.adoptRow_d (s : State) : s.adoptRow.d = s.d := rfl

@[simp] theorem State.adoptRow_l1 (s : State) : s.adoptRow.l1 = s.l1 := rfl

@[simp] theorem State.adoptRow_l2 (s : State) : s.adoptRow.l2 = s.l2 := rfl

@[simp] theorem State.adoptRow_q (s : State) : s.adoptRow.q = s.q := rfl

@[simp] theorem State.adoptRow_r (s : State) : s.adoptRow.r = s.r := rfl

@[simp] theorem State.adoptRow_refv (s : State) : s.adoptRow.refv = true := rfl

@[simp] theorem State.adoptRow_errcode (s : State) : s.adoptRow.errcode = s.errcode := rfl

@[simp] theorem State.adoptRow_width (s : State) : s.adoptRow.width = s.width := rfl

@[simp] theorem State.adoptRow_ba (s : State) : s.adoptRow.ba = s.ba := rfl

@[simp] theorem State.adoptRow_phase (s : State) : s.adoptRow.phase = s.phase := rfl

@[simp] theorem State.adoptRow_loadcnt (s : State) : s.adoptRow.loadcnt = 0 := rfl

@[simp] theorem State.adoptRow_cur (s : State) : s.adoptRow.cur = ⟨s.free, []⟩ := rfl

@[simp] theorem State.adoptRow_ref (s : State) : s.adoptRow.ref = s.cur := rfl

@[simp] theorem State.adoptRow_sinkLog (s : State) : s.adoptRow.sinkLog = s.sinkLog := rfl

@[simp] theorem State.adoptRow_sinkAnswers (s : State) : s.adoptRow.sinkAnswers = s.sinkAnswers := rfl

@[simp] theorem State.adoptRow_inbox (s : State) : s.adoptRow.inbox = s.inbox := rfl

@[simp] theorem State.adoptRow_result (s : State) : s.adoptRow.result = s.result := rfl

@[simp] theorem State.adoptRow_txCount (s : State) : s.adoptRow.txCount = s.txCount := rfl

@[simp] theorem State.adoptRow_free (s : State) : s.adoptRow.free = s.free + 1 := rfl

/-! ### Computed views -/

@[simp] theorem State.raise_w (s : State) (code : ErrCode) : (s.raise code).w = s.w := rfl

@[simp] theorem State.record_w (s : State) (tx : SinkTx) (b : Bool) : (s.record tx b).w = s.w := rfl

@[simp] theorem State.forgetCur_w (s : State) : s.forgetCur.w = s.w := rfl

@[simp] theorem State.forgetRef_w (s : State) : s.forgetRef.w = s.w := rfl

@[simp] theorem State.forgetTemps_w (s : State) : s.forgetTemps.w = s.w := rfl

@[simp] theorem State.give_w (s : State) (v : Result) : (s.give v).w = s.w := rfl

@[simp] theorem State.splitRun_w (s : State) (n : Nat) : (s.splitRun n).w = s.w := rfl

@[simp] theorem State.startRow_w (s : State) : s.startRow.w = s.w := rfl

@[simp] theorem State.sinkRefused_w (s : State) (tx : SinkTx) : (s.sinkRefused tx).w = s.w := rfl

@[simp] theorem State.cleared_w (s : State) : s.cleared.w = s.w := rfl

@[simp] theorem State.scripted_w (s : State) (answers : List SinkAnswer) : (s.scripted answers).w = s.w := rfl

@[simp] theorem State.adoptRow_w (s : State) : s.adoptRow.w = s.w := rfl

end Sys2Proof.Machine
end

