-- ==== Sys2Proof/Laws/Flow.lean ====
section
/-! SUPPORT. What an operation in progress can come to: the laws of `Flow`, and for each operation that talks to the
sink one lemma that says everything it can do. -/

namespace Sys2Proof.Machine

open Sys2Proof

/-! ### Sequencing -/

@[simp] theorem Flow.run_false_andThen (s : State) (k : State → Flow) : (Flow.run s false).andThen k = k s := rfl

@[simp] theorem Flow.run_true_andThen (s : State) (k : State → Flow) : (Flow.run s true).andThen k = .run s true := rfl

@[simp] theorem Flow.stop_andThen (e : Fault) (k : State → Flow) : (Flow.stop e).andThen k = .stop e := rfl

@[simp] theorem Flow.refuse_andThen (why : Refusal) (k : State → Flow) : (Flow.refuse why).andThen k = .refuse why := rfl

@[simp] theorem Flow.run_outcome (s : State) (b : Bool) : (Flow.run s b).outcome = .next s := rfl

/-- A sequence that comes to a state was raised in its first part, or went through both. -/
theorem Flow.andThen_eq_run {f : Flow} {k : State → Flow} {t : State} {b : Bool} (h : f.andThen k = .run t b) :
    (b = true ∧ f = .run t true) ∨ ∃ s, f = .run s false ∧ k s = .run t b := by
  match f, h with
  | .run s true, h => exact .inl (by simp at h; simp [h])
  | .run s false, h => exact .inr ⟨s, rfl, h⟩

/-- An outcome is a next state exactly when the operation came to a state. -/
theorem Flow.outcome_eq_next {f : Flow} {t : State} (h : f.outcome = .next t) : ∃ b, f = .run t b := by
  match f, h with
  | .run s b, h => exact ⟨b, by simp at h; simp [h]⟩

theorem Flow.ofExcept_eq_run {e : Except Refusal State} {t : State} {b : Bool} (h : Flow.ofExcept e = .run t b) :
    b = false ∧ e = .ok t := by
  match e, h with
  | .ok s, h => simp [Flow.ofExcept] at h; simp [h]

/-- A gated operation, outside phase ERROR, is the operation. -/
theorem unlessError_of_ne {f : State → Flow} {s : State} (h : s.phase ≠ .error) :
    unlessError f s = (f s).outcome := by
  simp [unlessError, h]

/-- A gated operation is ignored in phase ERROR, and else is the operation. -/
theorem unlessError_eq_next {f : State → Flow} {s t : State} (h : unlessError f s = .next t) :
    (s.phase = .error ∧ t = s) ∨ (s.phase ≠ .error ∧ ∃ b, f s = .run t b) := by
  unfold unlessError at h
  split at h
  · exact .inl ⟨‹_›, by simpa using h.symm⟩
  · exact .inr ⟨‹_›, Flow.outcome_eq_next h⟩

/-- An operation of the open page is ignored in ERROR, runs in PAGE, and is a ProtocolError in IDLE and DONE. -/
theorem whenPage_eq_next {f : State → Flow} {s t : State} (h : whenPage f s = .next t) :
    (s.phase = .error ∧ t = s) ∨ (s.phase = .page ∧ ∃ b, f s = .run t b) ∨
      ((s.phase = .idle ∨ s.phase = .done) ∧ t = s.raise .protocolError) := by
  unfold whenPage at h
  split at h
  · exact .inl ⟨‹_›, by simpa using h.symm⟩
  · split at h
    · exact .inr (.inl ⟨‹_›, Flow.outcome_eq_next h⟩)
    · refine .inr (.inr ⟨?_, by simpa using h.symm⟩)
      rename_i h1 h2
      cases hp : s.phase <;> simp_all

/-- An operation between pages is ignored in ERROR, a ProtocolError in PAGE, and runs in IDLE and DONE. -/
theorem unlessPage_eq_next {f : State → Flow} {s t : State} (h : unlessPage f s = .next t) :
    (s.phase = .error ∧ t = s) ∨ (s.phase = .page ∧ t = s.raise .protocolError) ∨
      ((s.phase = .idle ∨ s.phase = .done) ∧ ∃ b, f s = .run t b) := by
  unfold unlessPage at h
  split at h
  · exact .inl ⟨‹_›, by simpa using h.symm⟩
  · split at h
    · exact .inr (.inl ⟨‹_›, by simpa using h.symm⟩)
    · refine .inr (.inr ⟨?_, Flow.outcome_eq_next h⟩)
      rename_i h1 h2
      cases hp : s.phase <;> simp_all

/-! ### The sink -/

/-- Everything a sink transaction can do: it is accepted and recorded, or it is refused, recorded as refused, and raises
SinkWriteFailure. -/
theorem sinkTransact_cases {tx : SinkTx} {s t : State} {b : Bool} (h : sinkTransact tx s = .run t b) :
    (b = false ∧ t = s.record tx true) ∨ (b = true ∧ t = s.sinkRefused tx) := by
  unfold sinkTransact at h
  split at h
  · simp at h
  · rename_i accepted _
    cases accepted
    · exact .inr (by simp at h; simp [← h.1, ← h.2, State.sinkRefused])
    · exact .inl (by simp at h; simp [← h.1, ← h.2])

/-- A transaction the script accepts. -/
theorem sinkTransact_accepts {tx : SinkTx} {s : State} {n : Nat} (h : s.acceptsNext (n + 1)) :
    sinkTransact tx s = .run (s.record tx true) false := by
  unfold State.acceptsNext at h
  unfold sinkTransact State.sinkVerdict
  match hs : s.sinkAnswers, h with
  | a :: rest, h =>
    simp [List.replicate_succ] at h
    simp [h.1]

/-- A transaction the script refuses. -/
theorem sinkTransact_fails {tx : SinkTx} {s : State} (h : s.failsNext) :
    sinkTransact tx s = .run (s.sinkRefused tx) true := by
  unfold State.failsNext at h
  unfold sinkTransact State.sinkVerdict
  match hs : s.sinkAnswers, h with
  | a :: rest, h =>
    simp at h
    simp [h, State.sinkRefused]

/-- Where the sink answers, a transaction comes to a state. -/
theorem sinkTransact_answers {tx : SinkTx} {s : State} (h : s.answering) :
    ∃ t b, sinkTransact tx s = .run t b := by
  unfold State.answering at h
  unfold sinkTransact State.sinkVerdict
  match hs : s.sinkAnswers, h with
  | [], _ => exact ⟨_, _, rfl⟩
  | .ok :: _, _ => exact ⟨_, _, rfl⟩
  | .fail :: _, _ => exact ⟨_, _, rfl⟩
  | .silent :: _, h => simp at h

theorem State.acceptsNext_of_le {s : State} {m n : Nat} (h : s.acceptsNext n) (hmn : m ≤ n) : s.acceptsNext m := by
  unfold State.acceptsNext at *
  have := congrArg (List.take m) h
  rwa [List.take_take, List.take_replicate, min_eq_left hmn] at this

theorem State.acceptsNext_record {s : State} {n : Nat} (tx : SinkTx) (b : Bool) (h : s.acceptsNext (n + 1)) :
    (s.record tx b).acceptsNext n := by
  unfold State.acceptsNext at *
  match hs : s.sinkAnswers, h with
  | a :: rest, h =>
    simp [List.replicate_succ] at h
    simp [hs, h.2]

theorem State.answering_record {s : State} (tx : SinkTx) (b : Bool) (h : s.answering) : (s.record tx b).answering :=
  fun hm => h (List.mem_of_mem_tail hm)

theorem State.answering_sinkRefused {s : State} (tx : SinkTx) (h : s.answering) : (s.sinkRefused tx).answering :=
  State.answering_record tx false h

/-- Whether the sink answers depends on the script alone. -/
theorem State.answering_congr {s t : State} (h : t.sinkAnswers = s.sinkAnswers) (hs : s.answering) : t.answering := by
  unfold State.answering at *
  rwa [h]

theorem State.acceptsNext_congr {s t : State} {n : Nat} (h : t.sinkAnswers = s.sinkAnswers) (hs : s.acceptsNext n) :
    t.acceptsNext n := by
  unfold State.acceptsNext at *
  rwa [h]

end Sys2Proof.Machine
end

