-- ==== Sys2Proof/Laws/Rom.lean ====
section
/-! SUPPORT. The ROM against the decoder's code words, which are written from the bit strings of 40_code_tables and not
from its ROM words: a lookup inside a table returns the code word of its row. -/

namespace Sys2Proof.Machine

open Sys2Proof

theorem romRead_term_toOption (c : Colour) (rem : BitVec 6) :
    (romRead (termAddr c rem)).toOption = wordAt (runContext c) rem.toNat := by
  revert rem
  cases c <;> decide

theorem romRead_makeup_toOption (c : Colour) (quot : BitVec 6) (h1 : 1 ≤ quot.toNat) (h2 : quot.toNat ≤ Config.qMax) :
    (romRead (makeupAddr c quot)).toOption = wordAt (runContext c) (63 + quot.toNat) := by
  revert quot
  cases c <;> decide

theorem romRead_mode_toOption (sym : BitVec 6) (h : sym.toNat ≤ 8) :
    (romRead (modeAddr sym)).toOption = wordAt .mode sym.toNat := by
  revert sym
  decide

/-- Every row of the code words has a code. -/
theorem wordAt_isSome_white {k : Nat} (h : k < 104) : ∃ w, wordAt .white k = some w := by
  unfold wordAt
  rw [List.getElem?_eq_getElem (show k < (codeWords .white).length from h)]
  exact ⟨_, rfl⟩

theorem wordAt_isSome_black {k : Nat} (h : k < 104) : ∃ w, wordAt .black k = some w := by
  unfold wordAt
  rw [List.getElem?_eq_getElem (show k < (codeWords .black).length from h)]
  exact ⟨_, rfl⟩

theorem wordAt_isSome (c : Colour) {k : Nat} (h : k < 104) : ∃ w, wordAt (runContext c) k = some w := by
  cases c
  · exact wordAt_isSome_white h
  · exact wordAt_isSome_black h

theorem ok_of_toOption {e : Except Refusal Code} {k : Code} (h : e.toOption = some k) : e = .ok k := by
  match e, h with
  | .ok a, h => simp [Except.toOption] at h; rw [h]

/-- A terminating lookup returns the word of row `rem`. -/
theorem romRead_term (c : Colour) (rem : BitVec 6) :
    ∃ k, romRead (termAddr c rem) = .ok k ∧ wordAt (runContext c) rem.toNat = some k := by
  obtain ⟨k, hk⟩ := wordAt_isSome c (k := rem.toNat) (by have := rem.isLt; omega)
  exact ⟨k, ok_of_toOption (by rw [romRead_term_toOption, hk]), hk⟩

/-- A makeup lookup inside the table returns the word of row `63 + quot`. -/
theorem romRead_makeup (c : Colour) (quot : BitVec 6) (h1 : 1 ≤ quot.toNat) (h2 : quot.toNat ≤ Config.qMax) :
    ∃ k, romRead (makeupAddr c quot) = .ok k ∧ wordAt (runContext c) (63 + quot.toNat) = some k := by
  obtain ⟨k, hk⟩ := wordAt_isSome c (k := 63 + quot.toNat) (by simp [Config.qMax] at h2; omega)
  exact ⟨k, ok_of_toOption (by rw [romRead_makeup_toOption c quot h1 h2, hk]), hk⟩

/-- A mode lookup inside the table returns the word of row `sym`. -/
theorem romRead_mode (sym : BitVec 6) (h : sym.toNat ≤ 8) :
    ∃ k, romRead (modeAddr sym) = .ok k ∧ wordAt .mode sym.toNat = some k := by
  have hlen : sym.toNat < (codeWords .mode).length := by
    show sym.toNat < 10
    omega
  have hk : ∃ k, wordAt .mode sym.toNat = some k := by
    unfold wordAt
    rw [List.getElem?_eq_getElem hlen]
    exact ⟨_, rfl⟩
  obtain ⟨k, hk⟩ := hk
  exact ⟨k, ok_of_toOption (by rw [romRead_mode_toOption sym h, hk]), hk⟩

/-- Sending from an address refuses, or is the sink transaction of the code found there. -/
theorem sendFrom_eq_run {addr : BitVec 9} {s t : State} {b : Bool} (h : sendFrom addr s = .run t b) :
    ∃ k, romRead addr = .ok k ∧ sinkTransact (.writeCode k) s = .run t b := by
  unfold sendFrom at h
  split at h
  · simp at h
  · exact ⟨_, ‹_›, h⟩

/-- The terminating step is the sink transaction of the word of row `rem` (43 R183). -/
theorem sendTerm_eq (c : Colour) (rem : BitVec 6) :
    ∃ k, wordAt (runContext c) rem.toNat = some k ∧ ∀ s, sendTerm c rem s = sinkTransact (.writeCode k) s := by
  obtain ⟨k, hr, hk⟩ := romRead_term c rem
  exact ⟨k, hk, fun s => by simp [sendTerm, sendFrom, hr, sinkCode]⟩

/-- The makeup step is the sink transaction of the word of row `63 + quot` (43 R182). -/
theorem sendMakeup_eq (c : Colour) (quot : BitVec 6) (h1 : 1 ≤ quot.toNat) (h2 : quot.toNat ≤ Config.qMax) :
    ∃ k, wordAt (runContext c) (63 + quot.toNat) = some k ∧
      ∀ s, sendMakeup c quot s = sinkTransact (.writeCode k) s := by
  obtain ⟨k, hr, hk⟩ := romRead_makeup c quot h1 h2
  exact ⟨k, hk, fun s => by simp [sendMakeup, sendFrom, hr, sinkCode]⟩

/-- EMIT is the sink transaction of the word of row `sym` (42 R156). -/
theorem emitSymbol_eq (sym : BitVec 6) (h : sym.toNat ≤ 8) :
    ∃ k, wordAt .mode sym.toNat = some k ∧ ∀ s, emitSymbol sym s = sinkTransact (.writeCode k) s := by
  obtain ⟨k, hr, hk⟩ := romRead_mode sym h
  exact ⟨k, hk, fun s => by simp [emitSymbol, sendFrom, hr, sinkCode]⟩

end Sys2Proof.Machine
end

