-- ==== Sys2Proof/Laws/Scan.lean ====
section
/-! SUPPORT. The scanner: what a scan that answers has found, when it answers, and what it depends on. -/

namespace Sys2Proof.Machine

open Sys2Proof

/-- A pixel read inside the line and inside the buffer answers the pixel. -/
theorem readPixel_of_lt {l : Buffer} {i : Nat} {s : State} (hi : i < s.w) (hw : s.w ≤ Config.wMax) :
    readPixel l i s = .ok ((s.buffer l).pixel i) := by
  simp [readPixel, hi, lt_of_lt_of_le hi hw]

/-- A pixel read that answers is inside the line and answers the pixel. -/
theorem readPixel_eq_ok {l : Buffer} {i : Nat} {s : State} {c : Colour} (h : readPixel l i s = .ok c) :
    i < s.w ∧ i < Config.wMax ∧ c = (s.buffer l).pixel i := by
  unfold readPixel at h
  split at h
  · rename_i hi
    exact ⟨hi.1, hi.2, by simpa using h.symm⟩
  · simp at h

theorem readPixel_congr {l : Buffer} {i : Nat} {s t : State} (hw : t.width = s.width) (hb : t.buffer l = s.buffer l) :
    readPixel l i t = readPixel l i s := by
  have h : t.w = s.w := congrArg BitVec.toNat hw
  unfold readPixel
  rw [h, hb]

/-- Everything the scan loop can answer: the first index from `i` on whose colour differs, or the end. -/
theorem scanLoop_eq_ok {l : Buffer} {c : Colour} {s : State} {todo i j : Nat}
    (h : scanLoop l c s todo i = .ok j) :
    i ≤ j ∧ j ≤ i + todo ∧ (∀ k, i ≤ k → k < j → readPixel l k s = .ok c) ∧
      (j < i + todo → ∃ d, readPixel l j s = .ok d ∧ d ≠ c) := by
  induction todo generalizing i with
  | zero =>
    simp only [scanLoop, Except.ok.injEq] at h
    subst h
    exact ⟨le_rfl, le_rfl, fun k h1 h2 => absurd h2 (by omega), fun h => absurd h (by omega)⟩
  | succ todo ih =>
    simp only [scanLoop] at h
    split at h
    · simp at h
    · rename_i d hd
      split at h
      · rename_i hdc
        subst hdc
        obtain ⟨h1, h2, h3, h4⟩ := ih h
        refine ⟨by omega, by omega, fun k hk hkj => ?_, fun hj => h4 (by omega)⟩
        rcases Nat.eq_or_lt_of_le hk with rfl | hk
        · exact hd
        · exact h3 k hk hkj
      · rename_i hdc
        simp only [Except.ok.injEq] at h
        subst h
        exact ⟨le_rfl, by omega, fun k h1 h2 => absurd h2 (by omega), fun _ => ⟨d, hd, hdc⟩⟩

/-- The scan loop answers as long as it stays inside the line and the buffer. -/
theorem scanLoop_total {l : Buffer} (c : Colour) {s : State} {todo i : Nat} (hi : i + todo ≤ s.w)
    (hw : s.w ≤ Config.wMax) : ∃ j, scanLoop l c s todo i = .ok j := by
  induction todo generalizing i with
  | zero => exact ⟨i, rfl⟩
  | succ todo ih =>
    simp only [scanLoop, readPixel_of_lt (l := l) (show i < s.w by omega) hw]
    split
    · exact ih (by omega)
    · exact ⟨i, rfl⟩

theorem scanLoop_congr {l : Buffer} (c : Colour) {s t : State} (hw : t.width = s.width) (hb : t.buffer l = s.buffer l)
    (todo i : Nat) : scanLoop l c t todo i = scanLoop l c s todo i := by
  induction todo generalizing i with
  | zero => rfl
  | succ todo ih => simp only [scanLoop, readPixel_congr hw hb, ih]

/-- What a scan has found: nothing left, or the first index right of the start whose colour differs from the colour
`c` at the start (41_scanner R141, R142). -/
def Found (l : Buffer) (n : Nat) (start : Int) (s : State) (j : Nat) : Prop :=
  ((n : Int) ≤ start ∧ j = n) ∨
    (start < n ∧ ∃ c, ((start = -1 ∧ c = .white) ∨ (0 ≤ start ∧ readPixel l start.toNat s = .ok c)) ∧
      start < j ∧ j ≤ n ∧ (∀ k : Nat, start ≤ k → k < j → readPixel l k s = .ok c) ∧
      (j < n → ∃ d, readPixel l j s = .ok d ∧ d ≠ c))

/-- Everything a scan can answer. -/
theorem scanLine_eq_ok {l : Buffer} {n : Nat} {start : Int} {s : State} {j : Nat}
    (h : scanLine l n start s = .ok j) : -1 ≤ start ∧ Found l n start s j := by
  unfold scanLine at h
  split at h
  · simp at h
  · rename_i h0
    refine ⟨by omega, ?_⟩
    split at h
    · simp only [Except.ok.injEq] at h
      exact .inl ⟨‹_›, h.symm⟩
    · rename_i h1
      right
      refine ⟨by omega, ?_⟩
      split at h
      · rename_i h2
        obtain ⟨a1, a2, a3, a4⟩ := scanLoop_eq_ok h
        exact ⟨.white, .inl ⟨h2, rfl⟩, by omega, by omega, fun k _ hk => a3 k (by omega) hk,
          fun hj => a4 (by omega)⟩
      · rename_i h2
        split at h
        · simp at h
        · rename_i c hc
          obtain ⟨a1, a2, a3, a4⟩ := scanLoop_eq_ok h
          refine ⟨c, .inr ⟨by omega, hc⟩, ?_, by omega, fun k hk hkj => a3 k (by omega) hkj,
            fun hj => a4 (by omega)⟩
          by_contra hle
          obtain ⟨d, hd, hdc⟩ := a4 (by omega)
          have : j = start.toNat := by omega
          subst this
          rw [hc] at hd
          exact hdc (by simpa using hd.symm)

/-- A scan inside the line and the buffer answers. -/
theorem scanLine_total {l : Buffer} {n : Nat} {start : Int} {s : State} (h : -1 ≤ start) (hn : n ≤ s.w)
    (hw : s.w ≤ Config.wMax) : ∃ j, scanLine l n start s = .ok j := by
  unfold scanLine
  rw [if_neg (by omega)]
  split
  · exact ⟨n, rfl⟩
  · split
    · exact scanLoop_total _ (by omega) hw
    · rw [readPixel_of_lt (by omega) hw]
      exact scanLoop_total _ (by omega) hw

theorem scanLine_congr {l : Buffer} {s t : State} (hw : t.width = s.width) (hb : t.buffer l = s.buffer l) (n : Nat)
    (start : Int) : scanLine l n start t = scanLine l n start s := by
  unfold scanLine
  simp only [scanLoop_congr _ hw hb, readPixel_congr hw hb]

/-- A scan's answer is never past the end. -/
theorem Found.le {l : Buffer} {n : Nat} {start : Int} {s : State} {j : Nat} (h : Found l n start s j) : j ≤ n := by
  rcases h with ⟨_, rfl⟩ | ⟨_, c, _, _, h, _⟩
  · exact le_rfl
  · exact h

/-- A scan that starts inside the line moves to the right. -/
theorem Found.lt {l : Buffer} {n : Nat} {start : Int} {s : State} {j : Nat} (h : Found l n start s j)
    (hs : start < n) : start < j := by
  rcases h with ⟨h, _⟩ | ⟨_, c, _, h, _⟩
  · omega
  · exact h

end Sys2Proof.Machine
end

