-- ==== Sys2Proof/Laws/Encoder.lean ====
section
/-! SUPPORT. The line encoder: for each operation one lemma that says what it may change (`Coded`), and the progress of
one iteration of the row loop. -/

namespace Sys2Proof.Machine

open Sys2Proof

/-- What an operation of the line encoder that came to `t` (a fault raised or not) may have done to `s`: the frame of
coding a line; the sink received accepted transactions and, exactly where the fault is the sink's, one refused one at the end, all
numbered on; without a fault PHASE and ERRCODE are unchanged, with one they record it; A0 stays at least -1. -/
structure Coded (s t : State) (b : Bool) : Prop where
  frame : s.LineFrame t
  log : ∃ good bad, t.sinkLog = s.sinkLog ++ good ++ bad ∧ (∀ e ∈ good, e.accepted = true) ∧
    ((bad = [] ∧ (b = true → t.errcode = .runLengthRange)) ∨ (b = true ∧ t.errcode = .sinkWriteFailure ∧ ∃ e, bad = [e] ∧ e.accepted = false))
  number : ∃ new, t.sinkLog = s.sinkLog ++ new ∧ t.txCount = s.txCount + new.length ∧
    new.map SinkEvent.number = List.range' s.txCount new.length
  clean : b = false → t.phase = s.phase ∧ t.errcode = s.errcode
  raised : b = true → t.phase = .error ∧ (t.errcode = .sinkWriteFailure ∨ t.errcode = .runLengthRange)
  position : -1 ≤ s.a0.toInt → -1 ≤ t.a0.toInt

theorem State.LineFrame.refl (s : State) : s.LineFrame s := ⟨rfl, rfl, rfl, rfl, rfl, rfl, rfl, rfl, List.prefix_rfl⟩

theorem State.LineFrame.trans {s t u : State} (h : s.LineFrame t) (k : t.LineFrame u) : s.LineFrame u :=
  ⟨k.width.trans h.width, k.ba.trans h.ba, k.refv.trans h.refv, k.loadcnt.trans h.loadcnt, k.cur.trans h.cur,
    k.ref.trans h.ref, k.inbox.trans h.inbox, k.result.trans h.result, h.sink.trans k.sink⟩

/-- An update of the working registers that keeps A0 at least -1. -/
theorem Coded.of_update {s t : State} (h : s.LineFrame t) (hl : t.sinkLog = s.sinkLog)
    (hn : t.txCount = s.txCount) (hp : t.phase = s.phase) (he : t.errcode = s.errcode)
    (ha : -1 ≤ s.a0.toInt → -1 ≤ t.a0.toInt) : Coded s t false :=
  ⟨h, ⟨[], [], by simp [hl], by simp, .inl ⟨rfl, by simp⟩⟩, ⟨[], by simp [hl], by simp [hn], by simp⟩, fun _ => ⟨hp, he⟩,
    fun h => by simp at h, ha⟩

theorem Coded.trans {s t u : State} {b : Bool} (h : Coded s t false) (k : Coded t u b) : Coded s u b := by
  obtain ⟨g1, b1, e1, a1, c1⟩ := h.log
  obtain ⟨g2, b2, e2, a2, c2⟩ := k.log
  have hb1 : b1 = [] := (c1.resolve_right (by simp)).1
  subst hb1
  obtain ⟨n1, l1, x1, m1⟩ := h.number
  obtain ⟨n2, l2, x2, m2⟩ := k.number
  refine ⟨h.frame.trans k.frame, ⟨g1 ++ g2, b2, by simp [e2, e1], ?_, c2⟩,
    ⟨n1 ++ n2, by simp [l2, l1], by simp [x2, x1, Nat.add_assoc], ?_⟩, ?_, k.raised,
    fun ha => k.position (h.position ha)⟩
  · intro e he
    rcases List.mem_append.1 he with he | he
    · exact a1 e he
    · exact a2 e he
  · rw [List.map_append, m1, m2, x1, List.length_append, List.range'_append_1]
  · intro hb
    exact ⟨(k.clean hb).1.trans (h.clean rfl).1, (k.clean hb).2.trans (h.clean rfl).2⟩

/-- A sequence of two coded operations is coded. -/
theorem Coded.andThen {f : Flow} {k : State → Flow} {s u : State} {b : Bool}
    (hf : ∀ t c, f = .run t c → Coded s t c) (hk : ∀ t, f = .run t false → ∀ u c, k t = .run u c → Coded t u c)
    (h : f.andThen k = .run u b) : Coded s u b := by
  rcases Flow.andThen_eq_run h with ⟨rfl, h0⟩ | ⟨t, h1, h2⟩
  · exact hf _ _ h0
  · exact (hf _ _ h1).trans (hk _ h1 _ _ h2)

/-! ### The operations that send -/

theorem sinkTransact_coded {tx : SinkTx} {s t : State} {b : Bool} (h : sinkTransact tx s = .run t b) : Coded s t b := by
  rcases sinkTransact_cases h with ⟨rfl, rfl⟩ | ⟨rfl, rfl⟩
  · exact ⟨⟨rfl, rfl, rfl, rfl, rfl, rfl, rfl, rfl, by simp⟩, ⟨[⟨s.txCount, tx, true⟩], [], by simp, by simp, .inl ⟨rfl, by simp⟩⟩,
      ⟨[⟨s.txCount, tx, true⟩], by simp, by simp, by simp⟩, fun _ => ⟨rfl, rfl⟩, fun h => by simp at h, id⟩
  · exact ⟨⟨rfl, rfl, rfl, rfl, rfl, rfl, rfl, rfl, by simp [State.sinkRefused]⟩,
      ⟨[], [⟨s.txCount, tx, false⟩], by simp [State.sinkRefused], by simp,
        .inr ⟨rfl, rfl, _, rfl, rfl⟩⟩,
      ⟨[⟨s.txCount, tx, false⟩], by simp [State.sinkRefused], by simp [State.sinkRefused], by simp⟩,
      fun h => by simp at h, fun _ => ⟨rfl, .inl rfl⟩, id⟩

theorem sendFrom_coded {addr : BitVec 9} {s t : State} {b : Bool} (h : sendFrom addr s = .run t b) : Coded s t b := by
  obtain ⟨k, _, h⟩ := sendFrom_eq_run h
  exact sinkTransact_coded h

/-- The split of a run touches Q and R alone. -/
theorem splitRun_coded (n : Nat) (s : State) : Coded s (s.splitRun n) false :=
  .of_update ⟨rfl, rfl, rfl, rfl, rfl, rfl, rfl, rfl, List.prefix_rfl⟩ rfl rfl rfl rfl id

theorem runMakeup_coded {n : Nat} {c : Colour} {s t : State} {b : Bool} (h : runMakeup n c s = .run t b) :
    Coded s t b := by
  unfold runMakeup at h
  split at h
  · simp only [Flow.run.injEq] at h
    obtain ⟨rfl, rfl⟩ := h
    exact .of_update (.refl s) rfl rfl rfl rfl id
  · split at h
    · simp only [Flow.run.injEq] at h
      obtain ⟨rfl, rfl⟩ := h
      exact ⟨⟨rfl, rfl, rfl, rfl, rfl, rfl, rfl, rfl, List.prefix_rfl⟩, ⟨[], [], by simp, by simp, .inl ⟨rfl, fun _ => rfl⟩⟩,
        ⟨[], by simp, by simp, by simp⟩, fun h => by simp at h, fun _ => ⟨rfl, .inr rfl⟩, id⟩
    · exact sendFrom_coded h

theorem runLength_coded {n : Nat} {c : Colour} {s t : State} {b : Bool} (h : runLength n c s = .run t b) :
    Coded s t b :=
  (splitRun_coded n s).trans
    (Coded.andThen (fun _ _ h => runMakeup_coded h) (fun _ _ _ _ h => sendFrom_coded h) h)

/-! ### The modes -/

theorem toInt_setWidth_13 (x : BitVec 12) : (x.setWidth 13).toInt = x.toNat := by
  have := x.isLt
  rw [BitVec.toInt_eq_toNat_of_lt (by simp; omega)]
  simp; omega

theorem passMode_coded {s t : State} {b : Bool} (h : passMode s = .run t b) : Coded s t b := by
  refine Coded.andThen (fun _ _ h => sendFrom_coded h) (fun t _ u c h => ?_) h
  simp only [Flow.run.injEq] at h
  obtain ⟨rfl, rfl⟩ := h
  exact .of_update ⟨rfl, rfl, rfl, rfl, rfl, rfl, rfl, rfl, List.prefix_rfl⟩ rfl rfl rfl rfl
    fun _ => by simp only [toInt_setWidth_13]; omega

theorem verticalMode_coded {sym : BitVec 6} {s t : State} {b : Bool} (h : verticalMode sym s = .run t b) :
    Coded s t b := by
  refine Coded.andThen (fun _ _ h => sendFrom_coded h) (fun t _ u c h => ?_) h
  simp only [Flow.run.injEq] at h
  obtain ⟨rfl, rfl⟩ := h
  exact .of_update ⟨rfl, rfl, rfl, rfl, rfl, rfl, rfl, rfl, List.prefix_rfl⟩ rfl rfl rfl rfl
    fun _ => by simp only [toInt_setWidth_13]; omega

/-- Everything the measurement of the two runs can do (42 R164). -/
theorem measureRuns_eq_run {s t : State} {b : Bool} (h : measureRuns s = .run t b) :
    ∃ j, b = false ∧ scanLine .cur s.w s.a1.toNat s = .ok j ∧
      t = { s with
        a2 := BitVec.ofNat 12 j
        l1 := BitVec.ofInt 12 s.firstRun
        l2 := BitVec.ofInt 12 ((BitVec.ofNat 12 j).toNat - s.a1.toNat) } ∧
      0 ≤ s.firstRun ∧ 0 ≤ t.secondRun := by
  unfold measureRuns at h
  split at h
  · simp at h
  · rename_i j hj
    simp only at h
    split at h
    · simp at h
    · rename_i hneg
      simp only [Flow.run.injEq] at h
      obtain ⟨rfl, rfl⟩ := h
      exact ⟨j, rfl, hj, rfl, not_lt.1 fun h => hneg (.inl h), not_lt.1 fun h => hneg (.inr h)⟩

theorem measureRuns_coded {s t : State} {b : Bool} (h : measureRuns s = .run t b) : Coded s t b := by
  obtain ⟨j, rfl, _, rfl, _⟩ := measureRuns_eq_run h
  exact .of_update ⟨rfl, rfl, rfl, rfl, rfl, rfl, rfl, rfl, List.prefix_rfl⟩ rfl rfl rfl rfl id

theorem sendRuns_coded {s t : State} {b : Bool} (h : sendRuns s = .run t b) : Coded s t b := by
  refine Coded.andThen (fun _ _ h => runLength_coded h) (fun t _ u c h => ?_) h
  refine Coded.andThen (fun _ _ h => runLength_coded h) (fun u _ v c h => ?_) h
  simp only [Flow.run.injEq] at h
  obtain ⟨rfl, rfl⟩ := h
  exact .of_update ⟨rfl, rfl, rfl, rfl, rfl, rfl, rfl, rfl, List.prefix_rfl⟩ rfl rfl rfl rfl
    fun _ => by simp only [toInt_setWidth_13]; omega

theorem horizontalMode_coded {s t : State} {b : Bool} (h : horizontalMode s = .run t b) : Coded s t b :=
  Coded.andThen
    (fun _ _ h => Coded.andThen (fun _ _ h => sendFrom_coded h) (fun _ _ _ _ h => measureRuns_coded h) h)
    (fun _ _ _ _ h => sendRuns_coded h) h

/-! ### The row loop -/

/-- Everything the detection of A1 can do (42 R151). -/
theorem detectA1_eq_run {s t : State} {b : Bool} (h : detectA1 s = .run t b) :
    ∃ j, b = false ∧ scanLine .cur s.w s.a0.toInt s = .ok j ∧ t = { s with a1 := BitVec.ofNat 12 j } := by
  obtain ⟨hb, he⟩ := Flow.ofExcept_eq_run h
  generalize scanLine .cur s.w s.a0.toInt s = e at he
  cases e with
  | error why => simp [Except.map] at he
  | ok j => exact ⟨j, hb, rfl, by simpa [Except.map] using he.symm⟩

theorem detectA1_coded {s t : State} {b : Bool} (h : detectA1 s = .run t b) : Coded s t b := by
  obtain ⟨j, rfl, _, rfl⟩ := detectA1_eq_run h
  exact .of_update ⟨rfl, rfl, rfl, rfl, rfl, rfl, rfl, rfl, List.prefix_rfl⟩ rfl rfl rfl rfl id

/-- Everything the detection of B1 and B2 can do (42 R152). -/
theorem detectB_eq_run {s t : State} {b : Bool} (h : detectB s = .run t b) :
    b = false ∧ ((s.refv = false ∧ t = { s with b1 := s.width, b2 := s.width }) ∨
      (s.refv = true ∧ ∃ j k, findB1 s = .ok j ∧ scanLine .ref s.w j s = .ok k ∧
        t = { s with b1 := BitVec.ofNat 12 j, b2 := BitVec.ofNat 12 k })) := by
  unfold detectB at h
  split at h
  · simp only [Flow.run.injEq] at h
    exact ⟨h.2.symm, .inl ⟨‹_›, h.1.symm⟩⟩
  · split at h
    · simp at h
    · split at h
      · simp at h
      · simp only [Flow.run.injEq] at h
        exact ⟨h.2.symm, .inr ⟨by simpa using ‹¬s.refv = false›, _, _, ‹_›, ‹_›, h.1.symm⟩⟩

theorem detectB_coded {s t : State} {b : Bool} (h : detectB s = .run t b) : Coded s t b := by
  obtain ⟨rfl, ⟨_, rfl⟩ | ⟨_, j, k, _, _, rfl⟩⟩ := detectB_eq_run h <;>
    exact .of_update ⟨rfl, rfl, rfl, rfl, rfl, rfl, rfl, rfl, List.prefix_rfl⟩ rfl rfl rfl rfl id

/-- A write of D is no more than that. -/
theorem coded_writeD (s : State) (x : BitVec 13) : Coded s { s with d := x } false :=
  .of_update ⟨rfl, rfl, rfl, rfl, rfl, rfl, rfl, rfl, List.prefix_rfl⟩ rfl rfl rfl rfl id

theorem performMode_coded {s t : State} {b : Bool} (h : performMode s = .run t b) : Coded s t b := by
  unfold performMode at h
  split at h
  · exact passMode_coded h
  · exact (coded_writeD s _).trans (verticalMode_coded h)
  · exact (coded_writeD s _).trans (horizontalMode_coded h)

theorem forgetTemps_coded (s : State) : Coded s s.forgetTemps false :=
  .of_update ⟨rfl, rfl, rfl, rfl, rfl, rfl, rfl, rfl, List.prefix_rfl⟩ rfl rfl rfl rfl id

theorem rowIteration_coded {s t : State} {b : Bool} (h : rowIteration s = .run t b) : Coded s t b := by
  refine Coded.andThen (fun _ _ h => Coded.andThen (fun _ _ h => Coded.andThen (fun _ _ h => detectA1_coded h)
    (fun _ _ _ _ h => detectB_coded h) h) (fun _ _ _ _ h => performMode_coded h) h) (fun t _ u c h => ?_) h
  simp only [Flow.run.injEq] at h
  obtain ⟨rfl, rfl⟩ := h
  exact forgetTemps_coded t

theorem rowLoop_coded {n : Nat} {s t : State} {b : Bool} (h : rowLoop n s = .run t b) : Coded s t b := by
  induction n generalizing s t b with
  | zero =>
    simp only [rowLoop, Flow.run.injEq] at h
    obtain ⟨rfl, rfl⟩ := h
    exact .of_update (.refl s) rfl rfl rfl rfl id
  | succ n ih =>
    simp only [rowLoop] at h
    split at h
    · exact Coded.andThen (fun _ _ h => rowIteration_coded h) (fun _ _ _ _ h => ih h) h
    · simp only [Flow.run.injEq] at h
      obtain ⟨rfl, rfl⟩ := h
      exact .of_update (.refl s) rfl rfl rfl rfl id

theorem startRow_coded (s : State) : Coded s s.startRow false :=
  .of_update ⟨rfl, rfl, rfl, rfl, rfl, rfl, rfl, rfl, List.prefix_rfl⟩ rfl rfl rfl rfl fun _ => by
    show -1 ≤ (BitVec.ofInt 13 (-1)).toInt
    decide

/-- What ROWENC may change (42 R150, R167). -/
theorem encodeRow_coded {s t : State} {b : Bool} (h : encodeRow s = .run t b) : Coded s t b :=
  (startRow_coded s).trans (rowLoop_coded h)

end Sys2Proof.Machine
end

