-- ==== Sys2Proof/Laws/Accepts.lean ====
section
/-! SUPPORT. The accepting sink: sequences of accepted codes, and what a run sends when all its codes are accepted. -/

namespace Sys2Proof.Machine

open Sys2Proof

theorem State.sent_cons (c : Code) (codes : List Code) (s : State) :
    s.sent (c :: codes) = (s.record (.writeCode c) true).sent codes := rfl

theorem State.sent_append (a b : List Code) (s : State) : s.sent (a ++ b) = (s.sent a).sent b := by
  simp [State.sent]

/-- After the sink accepted some codes it accepts what is left of the script. -/
theorem State.acceptsNext_sent {codes : List Code} {s : State} {n : Nat} (h : s.acceptsNext (codes.length + n)) :
    (s.sent codes).acceptsNext n := by
  induction codes generalizing s with
  | nil => simpa [State.sent] using h
  | cons c codes ih =>
    rw [State.sent_cons]
    refine ih (State.acceptsNext_record _ _ ?_)
    rwa [List.length_cons, Nat.add_right_comm] at h

/-- A run inside the tables has one code below 64 and two from 64 on (43 R181). -/
theorem runCodes_length (n : Nat) (c : Colour) (h : n ≤ 2623) :
    (runCodes n c).length = if n / 64 = 0 then 1 else 2 := by
  obtain ⟨w, hw⟩ := wordAt_isSome c (k := n % 64) (by omega)
  unfold runCodes
  split
  · simp [hw]
  · obtain ⟨v, hv⟩ := wordAt_isSome c (k := 63 + n / 64) (by omega)
    simp [hw, hv]

/-- A run inside the tables whose codes are all accepted (43 R181 to R183). -/
theorem runLength_accepts {n : Nat} {c : Colour} {s : State} (hn : n ≤ 2623)
    (ha : s.acceptsNext (runCodes n c).length) :
    runLength n c s = .run ((s.splitRun n).sent (runCodes n c)) false := by
  have hr : (BitVec.ofNat 6 (n % 64)).toNat = n % 64 := by simp
  have hq : (BitVec.ofNat 6 (n / 64)).toNat = n / 64 := by simp; omega
  have ha : (s.splitRun n).acceptsNext (runCodes n c).length := State.acceptsNext_congr (s := s) rfl ha
  obtain ⟨w, hw, hws⟩ := sendTerm_eq c (BitVec.ofNat 6 (n % 64))
  rw [hr] at hw
  unfold runLength runMakeup runCodes
  unfold runCodes at ha
  by_cases h0 : n / 64 = 0
  · simp only [h0, if_true, hw, List.nil_append, Option.toList] at ha ⊢
    simp only [Flow.run_false_andThen]
    show sendTerm c (BitVec.ofNat 6 (n % 64)) (s.splitRun n) = _
    rw [hws]
    exact sinkTransact_accepts (n := 0) ha
  · have hle : n / 64 ≤ Config.qMax := by simp only [Config.qMax]; omega
    obtain ⟨v, hv, hvs⟩ := sendMakeup_eq c (BitVec.ofNat 6 (n / 64)) (by omega) (by omega)
    rw [hq] at hv
    simp only [h0, if_false, hw, hv, Option.toList] at ha ⊢
    rw [if_neg (by omega)]
    show (sendMakeup c (BitVec.ofNat 6 (n / 64)) (s.splitRun n)).andThen _ = _
    rw [hvs, sinkTransact_accepts (n := 1) ha]
    show sendTerm c (BitVec.ofNat 6 (n % 64)) _ = _
    rw [hws, sinkTransact_accepts (n := 0) (State.acceptsNext_record _ _ ha)]
    rfl

end Sys2Proof.Machine
end

