-- ==== Sys2Proof/Laws/Codes.lean ====
section
/-! SUPPORT. The line encoder issues codes and no other transaction (42_mode_selector R150, 20_memory R70, R71). -/

namespace Sys2Proof.Machine

open Sys2Proof

/-- From `s` to `t` the sink received transactions that are all codes. -/
def SentCodes (s t : State) : Prop :=
  ∃ new, t.sinkLog = s.sinkLog ++ new ∧ ∀ e ∈ new, ∃ c, e.tx = .writeCode c

/-- An operation that issues codes only. -/
def SendsCodes (f : State → Flow) : Prop :=
  ∀ s t b, f s = .run t b → SentCodes s t

theorem SentCodes.of_log {s t : State} (h : t.sinkLog = s.sinkLog) : SentCodes s t :=
  ⟨[], by simp [h], by simp⟩

theorem SentCodes.trans {s t u : State} (h : SentCodes s t) (k : SentCodes t u) : SentCodes s u := by
  obtain ⟨a, ha, ca⟩ := h
  obtain ⟨b, hb, cb⟩ := k
  exact ⟨a ++ b, by rw [hb, ha, List.append_assoc], fun e he => (List.mem_append.1 he).elim (ca e) (cb e)⟩

/-- A sequence of two operations that issue codes only. -/
theorem SendsCodes.andThen {f k : State → Flow} (hf : SendsCodes f) (hk : SendsCodes k) :
    SendsCodes fun s => (f s).andThen k := by
  intro s u b h
  rcases Flow.andThen_eq_run h with ⟨_, h⟩ | ⟨t, h1, h2⟩
  · exact hf _ _ _ h
  · exact (hf _ _ _ h1).trans (hk _ _ _ h2)

/-- An update of the state that leaves the sink alone. -/
theorem SendsCodes.of_update {g : State → State} {b : Bool} (h : ∀ s, (g s).sinkLog = s.sinkLog) :
    SendsCodes fun s => .run (g s) b := by
  intro s t c hf
  simp only [Flow.run.injEq] at hf
  exact .of_log (hf.1 ▸ h s)

/-! ### The operations -/

theorem sendFrom_sendsCodes (addr : BitVec 9) : SendsCodes (sendFrom addr) := by
  intro s t b h
  obtain ⟨c, _, h⟩ := sendFrom_eq_run h
  rcases sinkTransact_cases h with ⟨_, rfl⟩ | ⟨_, rfl⟩
  · exact ⟨[⟨s.txCount, .writeCode c, true⟩], rfl, by simp⟩
  · exact ⟨[⟨s.txCount, .writeCode c, false⟩], rfl, by simp⟩

theorem runLength_sendsCodes (n : Nat) (c : Colour) : SendsCodes (runLength n c) := by
  have makeup : SendsCodes (runMakeup n c) := by
    intro s t b h
    unfold runMakeup at h
    split at h
    · exact SendsCodes.of_update (g := id) (fun _ => rfl) s t b h
    · split at h
      · exact SendsCodes.of_update (g := fun s => s.raise .runLengthRange) (fun _ => rfl) s t b h
      · exact sendFrom_sendsCodes _ s t b h
  intro s t b h
  refine (SentCodes.of_log (s := s) (t := s.splitRun n) rfl).trans ?_
  exact makeup.andThen (fun u v d h => sendFrom_sendsCodes _ u v d h) _ t b h

theorem passMode_sendsCodes : SendsCodes passMode :=
  (sendFrom_sendsCodes _).andThen (.of_update (g := fun t => { t with a0 := t.b2.setWidth 13 }) fun _ => rfl)

theorem verticalMode_sendsCodes (sym : BitVec 6) : SendsCodes (verticalMode sym) :=
  (sendFrom_sendsCodes _).andThen
    (.of_update (g := fun t => { t with a0 := t.a1.setWidth 13, a0c := opp t.a0c }) fun _ => rfl)

theorem sendRuns_sendsCodes : SendsCodes sendRuns := by
  intro s t b h
  rcases Flow.andThen_eq_run h with ⟨_, h⟩ | ⟨u, h1, h2⟩
  · exact runLength_sendsCodes _ _ _ _ _ h
  · exact (runLength_sendsCodes _ _ _ _ _ h1).trans ((runLength_sendsCodes _ _).andThen
      (.of_update (g := fun u => { u with a0 := u.a2.setWidth 13 }) fun _ => rfl) _ _ _ h2)

theorem horizontalMode_sendsCodes : SendsCodes horizontalMode :=
  .andThen (.andThen (sendFrom_sendsCodes _) fun _ _ _ h => by
    obtain ⟨_, _, _, rfl, _⟩ := measureRuns_eq_run h
    exact .of_log rfl) sendRuns_sendsCodes

theorem rowIteration_sendsCodes : SendsCodes rowIteration := by
  have detect : SendsCodes fun s => (detectA1 s).andThen detectB :=
    .andThen (fun _ _ _ h => by
      obtain ⟨_, _, _, rfl⟩ := detectA1_eq_run h
      exact .of_log rfl) fun _ _ _ h => by
      obtain ⟨_, ⟨_, rfl⟩ | ⟨_, _, _, _, _, rfl⟩⟩ := detectB_eq_run h <;> exact .of_log rfl
  have perform : SendsCodes performMode := by
    intro s t b h
    unfold performMode at h
    split at h
    · exact passMode_sendsCodes _ _ _ h
    · exact SentCodes.trans (t := { s with d := BitVec.ofInt 13 s.distance }) (.of_log rfl)
        (verticalMode_sendsCodes _ _ _ _ h)
    · exact SentCodes.trans (t := { s with d := BitVec.ofInt 13 s.distance }) (.of_log rfl)
        (horizontalMode_sendsCodes _ _ _ h)
  exact (detect.andThen perform).andThen (.of_update (g := State.forgetTemps) fun _ => rfl)

/-- ROWENC issues codes only (42 R150). -/
theorem encodeRow_sendsCodes : SendsCodes encodeRow := by
  have loop : ∀ n, SendsCodes (rowLoop n) := by
    intro n
    induction n with
    | zero => exact .of_update (g := id) fun _ => rfl
    | succ n ih =>
      intro s t b h
      simp only [rowLoop] at h
      split at h
      · exact rowIteration_sendsCodes.andThen ih s t b h
      · exact SendsCodes.of_update (g := id) (fun _ => rfl) s t b h
  exact fun s t b h => (SentCodes.of_log (s := s) (t := s.startRow) rfl).trans (loop _ _ t b h)

end Sys2Proof.Machine
end

