-- ==== Sys2Proof/Laws/Sends.lean ====
section
/-! SUPPORT. What the operations of the emitted alphabet do: each issues the transaction of its own encoding, and then
at most updates the coding position or goes on with the two runs of horizontal mode. -/

namespace Sys2Proof.Machine

open Sys2Proof

/-- An operation that issues the transaction `tx` first and then goes on as an operation of the line encoder may. -/
def SendsFirst (i : Instr) (tx : SinkTx) : Prop :=
  ∃ k : State → Flow, (∀ s, exec i s = unlessError (fun t => (sinkTransact tx t).andThen k) s) ∧
    ∀ t u b, k t = .run u b → Coded t u b

theorem Flow.andThen_run (f : Flow) : f.andThen (fun t => .run t false) = f := by
  match f with
  | .run _ true => rfl
  | .run _ false => rfl
  | .stop _ => rfl
  | .refuse _ => rfl

theorem Flow.andThen_assoc (f : Flow) (g k : State → Flow) :
    (f.andThen g).andThen k = f.andThen fun t => (g t).andThen k := by
  match f with
  | .run _ true => rfl
  | .run _ false => rfl
  | .stop _ => rfl
  | .refuse _ => rfl

theorem Coded.refl (s : State) : Coded s s false :=
  .of_update (.refl s) rfl rfl rfl rfl id

theorem sendFrom_of_romRead {addr : BitVec 9} {c : Code} (h : romRead addr = .ok c) :
    sendFrom addr = sinkTransact (.writeCode c) := by
  funext s
  simp [sendFrom, h, sinkCode]

/-- The transaction of a code word is that of its encoding. -/
theorem sendsFirst_code {i : Instr} {tx : SinkTx} {ctx : CodeContext} {bits : List Bool} (h : sendsFirst i tx)
    (henc : encode i = .code ctx bits) : tx = .writeCode ⟨BitVec.ofNat 24 (valueOf bits), bits.length⟩ := by
  rcases h with ⟨ctx', bits', he, rfl⟩ | ⟨rfl, _⟩ | ⟨rfl, _⟩
  · rw [henc] at he
    simp at he
    rw [he.2]
  · simp [encode] at henc
  · simp [encode] at henc

/-- An operation that is one transaction and nothing else. -/
theorem sends_of_transact {i : Instr} {tx : SinkTx} (hexec : exec i = unlessError (sinkTransact tx)) :
    SendsFirst i tx :=
  ⟨fun t => .run t false, fun s => by simp only [Flow.andThen_run, hexec], fun t u b h => by
    simp only [Flow.run.injEq] at h
    obtain ⟨rfl, rfl⟩ := h
    exact .refl t⟩

/-- A run code: the ROM word at its address is the code its encoding spells. -/
theorem sends_of_rom {i : Instr} {tx : SinkTx} {ctx : CodeContext} {bits : List Bool} (addr : BitVec 9)
    (h : sendsFirst i tx) (henc : encode i = .code ctx bits) (hexec : exec i = unlessError (sendFrom addr))
    (hrom : romRead addr = .ok ⟨BitVec.ofNat 24 (valueOf bits), bits.length⟩) : SendsFirst i tx :=
  sends_of_transact (by rw [hexec, sendFrom_of_romRead hrom, sendsFirst_code h henc])

theorem sends_pass {tx : SinkTx} (h : sendsFirst .p tx) : SendsFirst .p tx := by
  rw [sendsFirst_code (ctx := .mode) (bits := bitsOf 4 1) h rfl]
  refine ⟨fun t => .run { t with a0 := t.b2.setWidth 13 } false, fun s => rfl, fun t u b h => ?_⟩
  simp only [Flow.run.injEq] at h
  obtain ⟨rfl, rfl⟩ := h
  exact .of_update ⟨rfl, rfl, rfl, rfl, rfl, rfl, rfl, rfl, List.prefix_rfl⟩ rfl rfl rfl rfl
    fun _ => by simp only [toInt_setWidth_13]; omega

theorem sends_vertical {i : Instr} {tx : SinkTx} {sym : BitVec 6} {bits : List Bool} (h : sendsFirst i tx)
    (henc : encode i = .code .mode bits) (hexec : exec i = unlessError (verticalMode sym))
    (hrom : romRead (modeAddr sym) = .ok ⟨BitVec.ofNat 24 (valueOf bits), bits.length⟩) : SendsFirst i tx := by
  rw [sendsFirst_code h henc]
  refine ⟨fun t => .run { t with a0 := t.a1.setWidth 13, a0c := opp t.a0c } false, fun s => ?_, fun t u b h => ?_⟩
  · have hv : verticalMode sym = fun s => (sendFrom (modeAddr sym) s).andThen fun t =>
        .run { t with a0 := t.a1.setWidth 13, a0c := opp t.a0c } false := rfl
    rw [hexec, hv, sendFrom_of_romRead hrom]
  · simp only [Flow.run.injEq] at h
    obtain ⟨rfl, rfl⟩ := h
    exact .of_update ⟨rfl, rfl, rfl, rfl, rfl, rfl, rfl, rfl, List.prefix_rfl⟩ rfl rfl rfl rfl
      fun _ => by simp only [toInt_setWidth_13]; omega

theorem sends_horizontal {tx : SinkTx} (h : sendsFirst .h tx) : SendsFirst .h tx := by
  rw [sendsFirst_code (ctx := .mode) (bits := bitsOf 3 1) h rfl]
  refine ⟨fun t => (measureRuns t).andThen sendRuns, fun s => ?_, fun t u b h =>
    Coded.andThen (fun _ _ h => measureRuns_coded h) (fun _ _ _ _ h => sendRuns_coded h) h⟩
  simp only [← Flow.andThen_assoc]
  rfl

/-- Everything an operation of the emitted alphabet can do: its own transaction first, and what the line encoder may do
after it. -/
theorem sendsFirst_spec {i : Instr} {tx : SinkTx} (h : sendsFirst i tx) : SendsFirst i tx := by
  cases i with
  | p => exact sends_pass h
  | h => exact sends_horizontal h
  | v0 => exact sends_vertical h rfl rfl rfl
  | vr1 => exact sends_vertical h rfl rfl rfl
  | vr2 => exact sends_vertical h rfl rfl rfl
  | vr3 => exact sends_vertical h rfl rfl rfl
  | vl1 => exact sends_vertical h rfl rfl rfl
  | vl2 => exact sends_vertical h rfl rfl rfl
  | vl3 => exact sends_vertical h rfl rfl rfl
  | wt0 => exact sends_of_rom 0x000 h rfl rfl rfl
  | wt1 => exact sends_of_rom 0x001 h rfl rfl rfl
  | wt2 => exact sends_of_rom 0x002 h rfl rfl rfl
  | wt3 => exact sends_of_rom 0x003 h rfl rfl rfl
  | wt4 => exact sends_of_rom 0x004 h rfl rfl rfl
  | wt5 => exact sends_of_rom 0x005 h rfl rfl rfl
  | wt6 => exact sends_of_rom 0x006 h rfl rfl rfl
  | wt7 => exact sends_of_rom 0x007 h rfl rfl rfl
  | wt8 => exact sends_of_rom 0x008 h rfl rfl rfl
  | wt9 => exact sends_of_rom 0x009 h rfl rfl rfl
  | wt10 => exact sends_of_rom 0x00A h rfl rfl rfl
  | wt11 => exact sends_of_rom 0x00B h rfl rfl rfl
  | wt12 => exact sends_of_rom 0x00C h rfl rfl rfl
  | wt13 => exact sends_of_rom 0x00D h rfl rfl rfl
  | wt14 => exact sends_of_rom 0x00E h rfl rfl rfl
  | wt15 => exact sends_of_rom 0x00F h rfl rfl rfl
  | wt16 => exact sends_of_rom 0x010 h rfl rfl rfl
  | wt17 => exact sends_of_rom 0x011 h rfl rfl rfl
  | wt18 => exact sends_of_rom 0x012 h rfl rfl rfl
  | wt19 => exact sends_of_rom 0x013 h rfl rfl rfl
  | wt20 => exact sends_of_rom 0x014 h rfl rfl rfl
  | wt21 => exact sends_of_rom 0x015 h rfl rfl rfl
  | wt22 => exact sends_of_rom 0x016 h rfl rfl rfl
  | wt23 => exact sends_of_rom 0x017 h rfl rfl rfl
  | wt24 => exact sends_of_rom 0x018 h rfl rfl rfl
  | wt25 => exact sends_of_rom 0x019 h rfl rfl rfl
  | wt26 => exact sends_of_rom 0x01A h rfl rfl rfl
  | wt27 => exact sends_of_rom 0x01B h rfl rfl rfl
  | wt28 => exact sends_of_rom 0x01C h rfl rfl rfl
  | wt29 => exact sends_of_rom 0x01D h rfl rfl rfl
  | wt30 => exact sends_of_rom 0x01E h rfl rfl rfl
  | wt31 => exact sends_of_rom 0x01F h rfl rfl rfl
  | wt32 => exact sends_of_rom 0x020 h rfl rfl rfl
  | wt33 => exact sends_of_rom 0x021 h rfl rfl rfl
  | wt34 => exact sends_of_rom 0x022 h rfl rfl rfl
  | wt35 => exact sends_of_rom 0x023 h rfl rfl rfl
  | wt36 => exact sends_of_rom 0x024 h rfl rfl rfl
  | wt37 => exact sends_of_rom 0x025 h rfl rfl rfl
  | wt38 => exact sends_of_rom 0x026 h rfl rfl rfl
  | wt39 => exact sends_of_rom 0x027 h rfl rfl rfl
  | wt40 => exact sends_of_rom 0x028 h rfl rfl rfl
  | wt41 => exact sends_of_rom 0x029 h rfl rfl rfl
  | wt42 => exact sends_of_rom 0x02A h rfl rfl rfl
  | wt43 => exact sends_of_rom 0x02B h rfl rfl rfl
  | wt44 => exact sends_of_rom 0x02C h rfl rfl rfl
  | wt45 => exact sends_of_rom 0x02D h rfl rfl rfl
  | wt46 => exact sends_of_rom 0x02E h rfl rfl rfl
  | wt47 => exact sends_of_rom 0x02F h rfl rfl rfl
  | wt48 => exact sends_of_rom 0x030 h rfl rfl rfl
  | wt49 => exact sends_of_rom 0x031 h rfl rfl rfl
  | wt50 => exact sends_of_rom 0x032 h rfl rfl rfl
  | wt51 => exact sends_of_rom 0x033 h rfl rfl rfl
  | wt52 => exact sends_of_rom 0x034 h rfl rfl rfl
  | wt53 => exact sends_of_rom 0x035 h rfl rfl rfl
  | wt54 => exact sends_of_rom 0x036 h rfl rfl rfl
  | wt55 => exact sends_of_rom 0x037 h rfl rfl rfl
  | wt56 => exact sends_of_rom 0x038 h rfl rfl rfl
  | wt57 => exact sends_of_rom 0x039 h rfl rfl rfl
  | wt58 => exact sends_of_rom 0x03A h rfl rfl rfl
  | wt59 => exact sends_of_rom 0x03B h rfl rfl rfl
  | wt60 => exact sends_of_rom 0x03C h rfl rfl rfl
  | wt61 => exact sends_of_rom 0x03D h rfl rfl rfl
  | wt62 => exact sends_of_rom 0x03E h rfl rfl rfl
  | wt63 => exact sends_of_rom 0x03F h rfl rfl rfl
  | bt0 => exact sends_of_rom 0x080 h rfl rfl rfl
  | bt1 => exact sends_of_rom 0x081 h rfl rfl rfl
  | bt2 => exact sends_of_rom 0x082 h rfl rfl rfl
  | bt3 => exact sends_of_rom 0x083 h rfl rfl rfl
  | bt4 => exact sends_of_rom 0x084 h rfl rfl rfl
  | bt5 => exact sends_of_rom 0x085 h rfl rfl rfl
  | bt6 => exact sends_of_rom 0x086 h rfl rfl rfl
  | bt7 => exact sends_of_rom 0x087 h rfl rfl rfl
  | bt8 => exact sends_of_rom 0x088 h rfl rfl rfl
  | bt9 => exact sends_of_rom 0x089 h rfl rfl rfl
  | bt10 => exact sends_of_rom 0x08A h rfl rfl rfl
  | bt11 => exact sends_of_rom 0x08B h rfl rfl rfl
  | bt12 => exact sends_of_rom 0x08C h rfl rfl rfl
  | bt13 => exact sends_of_rom 0x08D h rfl rfl rfl
  | bt14 => exact sends_of_rom 0x08E h rfl rfl rfl
  | bt15 => exact sends_of_rom 0x08F h rfl rfl rfl
  | bt16 => exact sends_of_rom 0x090 h rfl rfl rfl
  | bt17 => exact sends_of_rom 0x091 h rfl rfl rfl
  | bt18 => exact sends_of_rom 0x092 h rfl rfl rfl
  | bt19 => exact sends_of_rom 0x093 h rfl rfl rfl
  | bt20 => exact sends_of_rom 0x094 h rfl rfl rfl
  | bt21 => exact sends_of_rom 0x095 h rfl rfl rfl
  | bt22 => exact sends_of_rom 0x096 h rfl rfl rfl
  | bt23 => exact sends_of_rom 0x097 h rfl rfl rfl
  | bt24 => exact sends_of_rom 0x098 h rfl rfl rfl
  | bt25 => exact sends_of_rom 0x099 h rfl rfl rfl
  | bt26 => exact sends_of_rom 0x09A h rfl rfl rfl
  | bt27 => exact sends_of_rom 0x09B h rfl rfl rfl
  | bt28 => exact sends_of_rom 0x09C h rfl rfl rfl
  | bt29 => exact sends_of_rom 0x09D h rfl rfl rfl
  | bt30 => exact sends_of_rom 0x09E h rfl rfl rfl
  | bt31 => exact sends_of_rom 0x09F h rfl rfl rfl
  | bt32 => exact sends_of_rom 0x0A0 h rfl rfl rfl
  | bt33 => exact sends_of_rom 0x0A1 h rfl rfl rfl
  | bt34 => exact sends_of_rom 0x0A2 h rfl rfl rfl
  | bt35 => exact sends_of_rom 0x0A3 h rfl rfl rfl
  | bt36 => exact sends_of_rom 0x0A4 h rfl rfl rfl
  | bt37 => exact sends_of_rom 0x0A5 h rfl rfl rfl
  | bt38 => exact sends_of_rom 0x0A6 h rfl rfl rfl
  | bt39 => exact sends_of_rom 0x0A7 h rfl rfl rfl
  | bt40 => exact sends_of_rom 0x0A8 h rfl rfl rfl
  | bt41 => exact sends_of_rom 0x0A9 h rfl rfl rfl
  | bt42 => exact sends_of_rom 0x0AA h rfl rfl rfl
  | bt43 => exact sends_of_rom 0x0AB h rfl rfl rfl
  | bt44 => exact sends_of_rom 0x0AC h rfl rfl rfl
  | bt45 => exact sends_of_rom 0x0AD h rfl rfl rfl
  | bt46 => exact sends_of_rom 0x0AE h rfl rfl rfl
  | bt47 => exact sends_of_rom 0x0AF h rfl rfl rfl
  | bt48 => exact sends_of_rom 0x0B0 h rfl rfl rfl
  | bt49 => exact sends_of_rom 0x0B1 h rfl rfl rfl
  | bt50 => exact sends_of_rom 0x0B2 h rfl rfl rfl
  | bt51 => exact sends_of_rom 0x0B3 h rfl rfl rfl
  | bt52 => exact sends_of_rom 0x0B4 h rfl rfl rfl
  | bt53 => exact sends_of_rom 0x0B5 h rfl rfl rfl
  | bt54 => exact sends_of_rom 0x0B6 h rfl rfl rfl
  | bt55 => exact sends_of_rom 0x0B7 h rfl rfl rfl
  | bt56 => exact sends_of_rom 0x0B8 h rfl rfl rfl
  | bt57 => exact sends_of_rom 0x0B9 h rfl rfl rfl
  | bt58 => exact sends_of_rom 0x0BA h rfl rfl rfl
  | bt59 => exact sends_of_rom 0x0BB h rfl rfl rfl
  | bt60 => exact sends_of_rom 0x0BC h rfl rfl rfl
  | bt61 => exact sends_of_rom 0x0BD h rfl rfl rfl
  | bt62 => exact sends_of_rom 0x0BE h rfl rfl rfl
  | bt63 => exact sends_of_rom 0x0BF h rfl rfl rfl
  | wm64 => exact sends_of_rom 0x040 h rfl rfl rfl
  | wm128 => exact sends_of_rom 0x041 h rfl rfl rfl
  | wm192 => exact sends_of_rom 0x042 h rfl rfl rfl
  | wm256 => exact sends_of_rom 0x043 h rfl rfl rfl
  | wm320 => exact sends_of_rom 0x044 h rfl rfl rfl
  | wm384 => exact sends_of_rom 0x045 h rfl rfl rfl
  | wm448 => exact sends_of_rom 0x046 h rfl rfl rfl
  | wm512 => exact sends_of_rom 0x047 h rfl rfl rfl
  | wm576 => exact sends_of_rom 0x048 h rfl rfl rfl
  | wm640 => exact sends_of_rom 0x049 h rfl rfl rfl
  | wm704 => exact sends_of_rom 0x04A h rfl rfl rfl
  | wm768 => exact sends_of_rom 0x04B h rfl rfl rfl
  | wm832 => exact sends_of_rom 0x04C h rfl rfl rfl
  | wm896 => exact sends_of_rom 0x04D h rfl rfl rfl
  | wm960 => exact sends_of_rom 0x04E h rfl rfl rfl
  | wm1024 => exact sends_of_rom 0x04F h rfl rfl rfl
  | wm1088 => exact sends_of_rom 0x050 h rfl rfl rfl
  | wm1152 => exact sends_of_rom 0x051 h rfl rfl rfl
  | wm1216 => exact sends_of_rom 0x052 h rfl rfl rfl
  | wm1280 => exact sends_of_rom 0x053 h rfl rfl rfl
  | wm1344 => exact sends_of_rom 0x054 h rfl rfl rfl
  | wm1408 => exact sends_of_rom 0x055 h rfl rfl rfl
  | wm1472 => exact sends_of_rom 0x056 h rfl rfl rfl
  | wm1536 => exact sends_of_rom 0x057 h rfl rfl rfl
  | wm1600 => exact sends_of_rom 0x058 h rfl rfl rfl
  | wm1664 => exact sends_of_rom 0x059 h rfl rfl rfl
  | wm1728 => exact sends_of_rom 0x05A h rfl rfl rfl
  | bm64 => exact sends_of_rom 0x0C0 h rfl rfl rfl
  | bm128 => exact sends_of_rom 0x0C1 h rfl rfl rfl
  | bm192 => exact sends_of_rom 0x0C2 h rfl rfl rfl
  | bm256 => exact sends_of_rom 0x0C3 h rfl rfl rfl
  | bm320 => exact sends_of_rom 0x0C4 h rfl rfl rfl
  | bm384 => exact sends_of_rom 0x0C5 h rfl rfl rfl
  | bm448 => exact sends_of_rom 0x0C6 h rfl rfl rfl
  | bm512 => exact sends_of_rom 0x0C7 h rfl rfl rfl
  | bm576 => exact sends_of_rom 0x0C8 h rfl rfl rfl
  | bm640 => exact sends_of_rom 0x0C9 h rfl rfl rfl
  | bm704 => exact sends_of_rom 0x0CA h rfl rfl rfl
  | bm768 => exact sends_of_rom 0x0CB h rfl rfl rfl
  | bm832 => exact sends_of_rom 0x0CC h rfl rfl rfl
  | bm896 => exact sends_of_rom 0x0CD h rfl rfl rfl
  | bm960 => exact sends_of_rom 0x0CE h rfl rfl rfl
  | bm1024 => exact sends_of_rom 0x0CF h rfl rfl rfl
  | bm1088 => exact sends_of_rom 0x0D0 h rfl rfl rfl
  | bm1152 => exact sends_of_rom 0x0D1 h rfl rfl rfl
  | bm1216 => exact sends_of_rom 0x0D2 h rfl rfl rfl
  | bm1280 => exact sends_of_rom 0x0D3 h rfl rfl rfl
  | bm1344 => exact sends_of_rom 0x0D4 h rfl rfl rfl
  | bm1408 => exact sends_of_rom 0x0D5 h rfl rfl rfl
  | bm1472 => exact sends_of_rom 0x0D6 h rfl rfl rfl
  | bm1536 => exact sends_of_rom 0x0D7 h rfl rfl rfl
  | bm1600 => exact sends_of_rom 0x0D8 h rfl rfl rfl
  | bm1664 => exact sends_of_rom 0x0D9 h rfl rfl rfl
  | bm1728 => exact sends_of_rom 0x0DA h rfl rfl rfl
  | xm1792 => exact sends_of_rom 0x05B h rfl rfl rfl
  | xm1856 => exact sends_of_rom 0x05C h rfl rfl rfl
  | xm1920 => exact sends_of_rom 0x05D h rfl rfl rfl
  | xm1984 => exact sends_of_rom 0x05E h rfl rfl rfl
  | xm2048 => exact sends_of_rom 0x05F h rfl rfl rfl
  | xm2112 => exact sends_of_rom 0x060 h rfl rfl rfl
  | xm2176 => exact sends_of_rom 0x061 h rfl rfl rfl
  | xm2240 => exact sends_of_rom 0x062 h rfl rfl rfl
  | xm2304 => exact sends_of_rom 0x063 h rfl rfl rfl
  | xm2368 => exact sends_of_rom 0x064 h rfl rfl rfl
  | xm2432 => exact sends_of_rom 0x065 h rfl rfl rfl
  | xm2496 => exact sends_of_rom 0x066 h rfl rfl rfl
  | xm2560 => exact sends_of_rom 0x067 h rfl rfl rfl
  | eofb =>
    rw [sendsFirst_code (ctx := .mode) (bits := bitsOf 24 0x1001) h rfl]
    exact sends_of_transact rfl
  | align =>
    obtain ⟨_, _, he, _⟩ | ⟨_, rfl⟩ | ⟨hi, _⟩ := h
    · simp [encode] at he
    · exact sends_of_transact rfl
    · simp at hi
  | final =>
    obtain ⟨_, _, he, _⟩ | ⟨hi, _⟩ | ⟨_, rfl⟩ := h
    · simp [encode] at he
    · simp at hi
    · exact sends_of_transact rfl
  | _ =>
    obtain ⟨_, _, he, _⟩ | ⟨hi, _⟩ | ⟨hi, _⟩ := h
    · simp [encode] at he
    · simp at hi
    · simp at hi

end Sys2Proof.Machine
end

