-- ==== Sys2Proof/Laws/Exec.lean ====
section
/-! SUPPORT. What `exec` can do, instruction by instruction: ignored, coding a line, handing out a value, or one of the
host's seven writes; and what each of those seven can do. -/

namespace Sys2Proof.Machine

open Sys2Proof

/-- A gated line operation that comes to a next state was ignored in phase ERROR, or coded a line. -/
theorem coded_of_unlessError {f : State → Flow} (hf : ∀ s t b, f s = .run t b → Coded s t b) {s t : State}
    (h : unlessError f s = .next t) : (s.phase = .error ∧ t = s) ∨ (s.phase ≠ .error ∧ ∃ b, Coded s t b) := by
  rcases unlessError_eq_next h with h | ⟨hp, b, hb⟩
  · exact .inl h
  · exact .inr ⟨hp, b, hf _ _ _ hb⟩

/-- An operation of the emitted alphabet codes a line. -/
theorem coded_of_sendsFirst {i : Instr} {tx : SinkTx} (hi : sendsFirst i tx) {s t : State} (h : exec i s = .next t) :
    (s.phase = .error ∧ t = s) ∨ (s.phase ≠ .error ∧ ∃ b, Coded s t b) := by
  obtain ⟨k, hk, hc⟩ := sendsFirst_spec hi
  rw [hk] at h
  exact coded_of_unlessError (f := fun t => (sinkTransact tx t).andThen k)
    (fun _ _ _ h => Coded.andThen (fun _ _ h => sinkTransact_coded h) (fun t _ u c h => hc t u c h) h) h

/-- The host's writes: the operations that can change more than what coding a line changes. -/
inductive HostOp : Instr → Prop
  | wrWidth (w : BitVec 12) : HostOp (.wrWidth w)
  | wrCtrl (ba : Bool) : HostOp (.wrCtrl ba)
  | init : HostOp .init
  | pix (c : Colour) : HostOp (.pix c)
  | row : HostOp .row
  | eofbCmd : HostOp .eofbCmd
  | clear : HostOp .clear

theorem giveOr_eq_next {e : Except Refusal Result} {s t : State} (h : giveOr e s = .next t) : ∃ v, t = s.give v := by
  match e, h with
  | .ok v, h => exact ⟨v, by simpa [giveOr] using h.symm⟩

/-- Everything `exec` can come to: a line operation is ignored in phase ERROR and else codes a line; a read, a scan or a
lookup hands out a value; what is left are the host's writes. -/
theorem exec_cases {i : Instr} {s t : State} (h : exec i s = .next t) :
    (s.phase = .error ∧ t = s) ∨ (s.phase ≠ .error ∧ ∃ b, Coded s t b) ∨ (∃ v, t = s.give v) ∨ HostOp i := by
  have line : ((s.phase = .error ∧ t = s) ∨ (s.phase ≠ .error ∧ ∃ b, Coded s t b)) →
      (s.phase = .error ∧ t = s) ∨ (s.phase ≠ .error ∧ ∃ b, Coded s t b) ∨ (∃ v, t = s.give v) ∨ HostOp i :=
    fun h => h.imp_right .inl
  cases i with
  | align => exact line (coded_of_sendsFirst (.inr (.inl ⟨rfl, rfl⟩)) h)
  | final => exact line (coded_of_sendsFirst (.inr (.inr ⟨rfl, rfl⟩)) h)
  | init => exact .inr (.inr (.inr .init))
  | row => exact .inr (.inr (.inr .row))
  | eofbCmd => exact .inr (.inr (.inr .eofbCmd))
  | clear => exact .inr (.inr (.inr .clear))
  | wrWidth w => exact .inr (.inr (.inr (.wrWidth w)))
  | wrCtrl ba => exact .inr (.inr (.inr (.wrCtrl ba)))
  | pix c => exact .inr (.inr (.inr (.pix c)))
  | rdStatus => exact .inr (.inr (.inl ⟨_, by simpa [exec, execRdStatus] using h.symm⟩))
  | rdLoadcnt => exact .inr (.inr (.inl ⟨_, by simpa [exec, execRdLoadcnt] using h.symm⟩))
  | scan l n st => exact .inr (.inr (.inl (giveOr_eq_next h)))
  | lookupMode y => exact .inr (.inr (.inl (giveOr_eq_next h)))
  | lookupTerm c y => exact .inr (.inr (.inl (giveOr_eq_next h)))
  | lookupMakeup c y => exact .inr (.inr (.inl (giveOr_eq_next h)))
  | rowenc => exact line (coded_of_unlessError (fun _ _ _ h => encodeRow_coded h) h)
  | run n c => exact line (coded_of_unlessError (fun _ _ _ h => runLength_coded h) h)
  | emit y => exact line (coded_of_unlessError (fun _ _ _ h => sendFrom_coded h) h)
  | _ => exact line (coded_of_sendsFirst (.inl ⟨_, _, rfl, rfl⟩) h)

/-! ### The host's writes -/

/-- Everything INIT's body can do (44 R192). -/
theorem openPage_eq_run {s t : State} {b : Bool} (h : openPage s = .run t b) :
    (b = true ∧ (s.w < 1 ∨ Config.wMax < s.w) ∧ t = s.raise .configError) ∨
      (b = false ∧ 1 ≤ s.w ∧ s.w ≤ Config.wMax ∧
        t = ({ s with refv := false, loadcnt := 0, phase := .page } : State).forgetCur.forgetRef) := by
  unfold openPage at h
  split at h
  · simp only [Flow.run.injEq] at h
    exact .inl ⟨h.2.symm, ‹_›, h.1.symm⟩
  · simp only [Flow.run.injEq] at h
    exact .inr ⟨h.2.symm, by omega, by omega, h.1.symm⟩

/-- Everything PIX's body can do (44 R193). -/
theorem pushPixel_eq_run {c : Colour} {s t : State} {b : Bool} (h : pushPixel c s = .run t b) :
    (b = true ∧ s.w ≤ s.loadcnt.toNat ∧ t = s.raise .malformedInput) ∨
      (b = false ∧ s.loadcnt.toNat < s.w ∧ s.loadcnt.toNat < Config.wMax ∧
        t = { s with cur := s.cur.write s.loadcnt.toNat c, loadcnt := s.loadcnt + 1 }) := by
  unfold pushPixel at h
  split at h
  · simp only [Flow.run.injEq] at h
    exact .inl ⟨h.2.symm, ‹_›, h.1.symm⟩
  · split at h
    · simp at h
    · simp only [Flow.run.injEq] at h
      exact .inr ⟨h.2.symm, by omega, by omega, h.1.symm⟩

/-- Everything the alignment at the end of ROW can do (44 R195). -/
theorem alignIfAsked_eq_run {s t : State} {b : Bool} (h : alignIfAsked s = .run t b) :
    (s.ba = true ∧ sinkTransact .alignToByteBoundary s = .run t b) ∨ (s.ba = false ∧ b = false ∧ t = s) := by
  unfold alignIfAsked at h
  split at h
  · exact .inl ⟨‹_›, h⟩
  · simp only [Flow.run.injEq] at h
    exact .inr ⟨by simpa using ‹¬s.ba = true›, h.2.symm, h.1.symm⟩

/-- Everything ROW's body can do (44 R194): the row is not complete; or ROWENC raised a fault; or the reference was
updated and the alignment follows. -/
theorem codeRow_eq_run {s t : State} {b : Bool} (h : codeRow s = .run t b) :
    (b = true ∧ s.loadcnt.toNat ≠ s.w ∧ t = s.raise .malformedInput) ∨
      (s.loadcnt.toNat = s.w ∧ b = true ∧ encodeRow s = .run t true) ∨
      (s.loadcnt.toNat = s.w ∧ ∃ u, encodeRow s = .run u false ∧ alignIfAsked u.adoptRow = .run t b) := by
  unfold codeRow at h
  split at h
  · simp only [Flow.run.injEq] at h
    exact .inl ⟨h.2.symm, ‹_›, h.1.symm⟩
  · rename_i hw
    have hw : s.loadcnt.toNat = s.w := by omega
    rcases Flow.andThen_eq_run h with ⟨hb, h1⟩ | ⟨v, h1, h2⟩
    · rcases Flow.andThen_eq_run h1 with ⟨_, h3⟩ | ⟨u, _, h4⟩
      · exact .inr (.inl ⟨hw, hb, h3⟩)
      · simp at h4
    · rcases Flow.andThen_eq_run h1 with ⟨hf, _⟩ | ⟨u, h3, h4⟩
      · simp at hf
      · simp only [Flow.run.injEq, and_true] at h4
        subst h4
        exact .inr (.inr ⟨hw, u, h3, h2⟩)

/-- Everything the body of the command EOFB can do (44 R196). -/
theorem closePage_eq_run {s t : State} {b : Bool} (h : closePage s = .run t b) :
    (b = true ∧ s.loadcnt.toNat ≠ 0 ∧ t = s.raise .malformedInput) ∨
      (s.loadcnt.toNat = 0 ∧ b = true ∧ t = s.sinkRefused (.writeCode eofbCode)) ∨
      (s.loadcnt.toNat = 0 ∧ b = true ∧ t = (s.record (.writeCode eofbCode) true).sinkRefused .finalize) ∨
      (s.loadcnt.toNat = 0 ∧ b = false ∧
        t = { (s.record (.writeCode eofbCode) true).record .finalize true with phase := .done }) := by
  unfold closePage at h
  split at h
  · simp only [Flow.run.injEq] at h
    exact .inl ⟨h.2.symm, ‹_›, h.1.symm⟩
  · rename_i hw
    have hw : s.loadcnt.toNat = 0 := by omega
    rcases Flow.andThen_eq_run h with ⟨hb, h1⟩ | ⟨v, h1, h2⟩
    · rcases Flow.andThen_eq_run h1 with ⟨_, h3⟩ | ⟨u, h3, h4⟩
      · rcases sinkTransact_cases h3 with ⟨hf, _⟩ | ⟨_, rfl⟩
        · simp at hf
        · exact .inr (.inl ⟨hw, hb, rfl⟩)
      · rcases sinkTransact_cases h3 with ⟨_, rfl⟩ | ⟨hf, _⟩
        · rcases sinkTransact_cases h4 with ⟨hf, _⟩ | ⟨_, rfl⟩
          · simp at hf
          · exact .inr (.inr (.inl ⟨hw, hb, rfl⟩))
        · simp at hf
    · simp only [Flow.run.injEq] at h2
      obtain ⟨rfl, rfl⟩ := h2
      rcases Flow.andThen_eq_run h1 with ⟨hf, _⟩ | ⟨u, h3, h4⟩
      · simp at hf
      · rcases sinkTransact_cases h3 with ⟨_, rfl⟩ | ⟨hf, _⟩
        · rcases sinkTransact_cases h4 with ⟨_, rfl⟩ | ⟨hf, _⟩
          · exact .inr (.inr (.inr ⟨hw, rfl, rfl⟩))
          · simp at hf
        · simp at hf

/-- Everything one of the host's writes can do: it is ignored; it takes a fault before anything else; or it has its
effect, which for ROW and EOFB may end in the sink's fault. -/
inductive HostEffect : Instr → State → State → Prop
  | ignored {i s} (hp : s.phase = .error) : HostEffect i s s
  | raised {i s e} (hp : s.phase ≠ .error) (he : e ≠ .none) : HostEffect i s (s.raise e)
  | wrWidth {s} (w : BitVec 12) (hp : s.phase = .idle ∨ s.phase = .done) : HostEffect (.wrWidth w) s { s with width := w }
  | wrCtrl {s} (ba : Bool) (hp : s.phase = .idle ∨ s.phase = .done) : HostEffect (.wrCtrl ba) s { s with ba := ba }
  | init {s : State} (hp : s.phase = .idle ∨ s.phase = .done) (h1 : 1 ≤ s.w) (h2 : s.w ≤ Config.wMax) : HostEffect .init s
      ({ s with refv := false, loadcnt := 0, phase := .page } : State).forgetCur.forgetRef
  | pix {s} (c : Colour) (hp : s.phase = .page) (h1 : s.loadcnt.toNat < s.w) (h2 : s.loadcnt.toNat < Config.wMax) :
      HostEffect (.pix c) s { s with cur := s.cur.write s.loadcnt.toNat c, loadcnt := s.loadcnt + 1 }
  | rowFails {s t} (hp : s.phase = .page) (hw : s.loadcnt.toNat = s.w) (h : encodeRow s = .run t true) :
      HostEffect .row s t
  | row {s u t b} (hp : s.phase = .page) (hw : s.loadcnt.toNat = s.w) (h : encodeRow s = .run u false)
      (ha : alignIfAsked u.adoptRow = .run t b) : HostEffect .row s t
  | eofbFails {s} (hp : s.phase = .page) (hw : s.loadcnt.toNat = 0) :
      HostEffect .eofbCmd s (s.sinkRefused (.writeCode eofbCode))
  | finalizeFails {s} (hp : s.phase = .page) (hw : s.loadcnt.toNat = 0) :
      HostEffect .eofbCmd s ((s.record (.writeCode eofbCode) true).sinkRefused .finalize)
  | eofb {s} (hp : s.phase = .page) (hw : s.loadcnt.toNat = 0) : HostEffect .eofbCmd s
      { (s.record (.writeCode eofbCode) true).record .finalize true with phase := .done }
  | clear {s} : HostEffect .clear s s.cleared

/-- An operation between pages, from what its body can do. -/
theorem hostEffect_of_unlessPage {i : Instr} {f : State → Flow} {s t : State} (h : unlessPage f s = .next t)
    (hf : ∀ b, (s.phase = .idle ∨ s.phase = .done) → f s = .run t b → HostEffect i s t) : HostEffect i s t := by
  rcases unlessPage_eq_next h with ⟨hp, rfl⟩ | ⟨hp, rfl⟩ | ⟨hp, b, hb⟩
  · exact .ignored hp
  · exact .raised (by simp [hp]) (by simp)
  · exact hf b hp hb

/-- An operation of the open page, from what its body can do. -/
theorem hostEffect_of_whenPage {i : Instr} {f : State → Flow} {s t : State} (h : whenPage f s = .next t)
    (hf : ∀ b, s.phase = .page → f s = .run t b → HostEffect i s t) : HostEffect i s t := by
  rcases whenPage_eq_next h with ⟨hp, rfl⟩ | ⟨hp, b, hb⟩ | ⟨hp, rfl⟩
  · exact .ignored hp
  · exact hf b hp hb
  · exact .raised (by rcases hp with hp | hp <;> simp [hp]) (by simp)

/-- Everything one of the host's writes can come to. -/
theorem hostOp_cases {i : Instr} {s t : State} (hi : HostOp i) (h : exec i s = .next t) : HostEffect i s t := by
  cases hi with
  | wrWidth w =>
    simp only [exec, execWrWidth] at h
    refine hostEffect_of_unlessPage h fun b hp hb => ?_
    simp only [Flow.run.injEq] at hb
    obtain ⟨rfl, rfl⟩ := hb
    exact .wrWidth w hp
  | wrCtrl ba =>
    simp only [exec, execWrCtrl] at h
    refine hostEffect_of_unlessPage h fun b hp hb => ?_
    simp only [Flow.run.injEq] at hb
    obtain ⟨rfl, rfl⟩ := hb
    exact .wrCtrl ba hp
  | init =>
    refine hostEffect_of_unlessPage (f := openPage) h fun b hp hb => ?_
    rcases openPage_eq_run hb with ⟨_, _, rfl⟩ | ⟨_, h1, h2, rfl⟩
    · exact .raised (by rcases hp with hp | hp <;> simp [hp]) (by simp)
    · exact .init hp h1 h2
  | pix c =>
    refine hostEffect_of_whenPage (f := pushPixel c) h fun b hp hb => ?_
    rcases pushPixel_eq_run hb with ⟨_, _, rfl⟩ | ⟨_, h1, h2, rfl⟩
    · exact .raised (by simp [hp]) (by simp)
    · exact .pix c hp h1 h2
  | row =>
    refine hostEffect_of_whenPage (f := codeRow) h fun b hp hb => ?_
    rcases codeRow_eq_run hb with ⟨_, _, rfl⟩ | ⟨hw, _, h1⟩ | ⟨hw, u, h1, h2⟩
    · exact .raised (by simp [hp]) (by simp)
    · exact .rowFails hp hw h1
    · exact .row hp hw h1 h2
  | eofbCmd =>
    refine hostEffect_of_whenPage (f := closePage) h fun b hp hb => ?_
    rcases closePage_eq_run hb with ⟨_, _, rfl⟩ | ⟨hw, _, rfl⟩ | ⟨hw, _, rfl⟩ | ⟨hw, _, rfl⟩
    · exact .raised (by simp [hp]) (by simp)
    · exact .eofbFails hp hw
    · exact .finalizeFails hp hw
    · exact .eofb hp hw
  | clear =>
    simp only [exec, execClear, Host.Outcome.next.injEq] at h
    subst h
    exact .clear

/-- Everything a host write with a hardware reset inside it can come to (70_reset R240). -/
theorem resetDuringWrite_cases {d : Decoded} {n : Nat} {s t : State} (h : resetDuringWrite d n s = .next t) :
    t = s.hardwareReset ∨ ∃ i u, d = .instr i ∧ exec i { s with sinkAnswers := s.answersUpTo n } = .next u ∧
      t = s.abandoned ((u.sinkLog.drop s.sinkLog.length).take n) := by
  unfold resetDuringWrite at h
  split at h
  · rename_i i
    cases he : exec i { s with sinkAnswers := s.answersUpTo n } with
    | next u => exact .inr ⟨i, u, rfl, he, by simpa [he] using h.symm⟩
    | fault e => simp [he] at h
    | refused why => simp [he] at h
  · exact .inl (by simpa using h.symm)

/-- Everything a step that serves a request can come to. -/
theorem step_cases {s t : State} {req : Request} {rest : List Request} (hin : s.inbox = req :: rest)
    (h : step s = .next t) :
    (∃ i, decode req = .instr i ∧ exec i { s with inbox := rest } = .next t) ∨
      ∃ a, decode req = .access a ∧ hostAccess a { s with inbox := rest } = .next t := by
  unfold step at h
  rw [hin] at h
  simp only at h
  split at h
  · exact .inl ⟨_, ‹_›, h⟩
  · exact .inr ⟨_, ‹_›, h⟩
  · simp at h

end Sys2Proof.Machine
end

