-- ==== Sys2Proof/Laws/Line.lean ====
section
/-! SUPPORT. The laws of the line buffers: a read after a write, and the canonical form. -/

namespace Sys2Proof.Machine

open Sys2Proof

theorem storedAt_storeAt_same (cells : List (Nat × Colour)) (i : Nat) (c : Colour) :
    storedAt (storeAt cells i c) i = some c := by
  induction cells with
  | nil => simp [storeAt, storedAt]
  | cons x rest ih =>
    obtain ⟨k, d⟩ := x
    by_cases h1 : i < k
    · simp [storeAt, storedAt, h1]
    · by_cases h2 : i = k
      · simp [storeAt, storedAt, h2]
      · simp [storeAt, storedAt, h1, h2, Ne.symm h2, ih]

theorem storedAt_storeAt_other (cells : List (Nat × Colour)) {i j : Nat} (c : Colour) (h : j ≠ i) :
    storedAt (storeAt cells i c) j = storedAt cells j := by
  induction cells with
  | nil => simp [storeAt, storedAt, h.symm]
  | cons x rest ih =>
    obtain ⟨k, d⟩ := x
    by_cases h1 : i < k
    · simp [storeAt, storedAt, h1, h.symm]
    · by_cases h2 : i = k
      · subst h2
        simp [storeAt, storedAt, h.symm]
      · simp [storeAt, storedAt, h1, h2, ih]

@[simp] theorem Line.pixel_write_same (l : Line) (i : Nat) (c : Colour) : (l.write i c).pixel i = c := by
  simp [Line.pixel, Line.write, storedAt_storeAt_same]

theorem Line.pixel_write_other (l : Line) {i j : Nat} (c : Colour) (h : j ≠ i) :
    (l.write i c).pixel j = l.pixel j := by
  simp [Line.pixel, Line.write, storedAt_storeAt_other _ c h]

/-- Every cell after a write is the written one or was there before. -/
theorem mem_storeAt {cells : List (Nat × Colour)} {i : Nat} {c : Colour} {x : Nat × Colour}
    (h : x ∈ storeAt cells i c) : x = (i, c) ∨ x ∈ cells := by
  induction cells with
  | nil => exact .inl (by simpa [storeAt] using h)
  | cons y rest ih =>
    obtain ⟨k, d⟩ := y
    by_cases h1 : i < k
    · simpa [storeAt, h1] using h
    · by_cases h2 : i = k
      · rcases (by simpa [storeAt, h2] using h : x = (k, c) ∨ x ∈ rest) with h | h
        · exact .inl (by rw [h, h2])
        · exact .inr (List.mem_cons_of_mem _ h)
      · rcases (by simpa [storeAt, h1, h2] using h : x = (k, d) ∨ x ∈ storeAt rest i c) with h | h
        · exact .inr (by simp [h])
        · exact (ih h).imp_right (List.mem_cons_of_mem _)

theorem pairwise_storeAt {cells : List (Nat × Colour)} (i : Nat) (c : Colour)
    (h : cells.Pairwise fun a b => a.1 < b.1) : (storeAt cells i c).Pairwise fun a b => a.1 < b.1 := by
  induction cells with
  | nil => simp [storeAt]
  | cons y rest ih =>
    obtain ⟨k, d⟩ := y
    obtain ⟨hk, hr⟩ := List.pairwise_cons.1 h
    by_cases h1 : i < k
    · simp only [storeAt, h1, if_true]
      refine List.pairwise_cons.2 ⟨?_, h⟩
      intro x hx
      rcases List.mem_cons.1 hx with rfl | hx
      · exact h1
      · exact lt_trans h1 (hk x hx)
    · by_cases h2 : i = k
      · subst h2
        simp only [storeAt, lt_irrefl, if_false, if_true]
        exact List.pairwise_cons.2 ⟨hk, hr⟩
      · simp only [storeAt, h1, h2, if_false]
        refine List.pairwise_cons.2 ⟨?_, ih hr⟩
        intro x hx
        rcases mem_storeAt hx with rfl | hx
        · show k < i
          omega
        · exact hk x hx

theorem Line.wf_iff (l : Line) :
    l.wf = true ↔ (l.cells.Pairwise fun a b => a.1 < b.1) ∧ ∀ a ∈ l.cells, a.1 < Config.wMax := by
  simp [Line.wf]

/-- A write inside the buffer keeps the canonical form. -/
theorem Line.write_wf {l : Line} {i : Nat} (c : Colour) (h : l.wf = true) (hi : i < Config.wMax) :
    (l.write i c).wf = true := by
  rw [Line.wf_iff] at h ⊢
  refine ⟨pairwise_storeAt i c h.1, fun a ha => ?_⟩
  rcases mem_storeAt ha with rfl | ha
  · exact hi
  · exact h.2 a ha

/-- A buffer nothing has been written to is in canonical form. -/
@[simp] theorem Line.fresh_wf (era : Nat) : (Line.mk era []).wf = true := rfl

/-! ### Every operation on the line buffers keeps the canonical form -/

/-- At reset both line buffers are in canonical form. -/
theorem State.reset_lines_wf : State.reset.cur.wf = true ∧ State.reset.ref.wf = true := ⟨rfl, rfl⟩

theorem State.forgetCur_lines_wf {s : State} (h : s.ref.wf = true) :
    s.forgetCur.cur.wf = true ∧ s.forgetCur.ref.wf = true := ⟨rfl, h⟩

theorem State.forgetRef_lines_wf {s : State} (h : s.cur.wf = true) :
    s.forgetRef.cur.wf = true ∧ s.forgetRef.ref.wf = true := ⟨h, rfl⟩

/-- The reference update hands a canonical CUR to REF. -/
theorem State.adoptRow_lines_wf {s : State} (h : s.cur.wf = true) :
    s.adoptRow.cur.wf = true ∧ s.adoptRow.ref.wf = true := ⟨rfl, h⟩

end Sys2Proof.Machine
end

