-- ==== Sys2Proof/Laws/PerInstr.lean ====
section
/-! SUPPORT. Per-instruction laws about the instructions as syntax: the round trip through the encoder and the
decoder, one lemma per constructor (30_encoding R91 to R98, R107). -/

namespace Sys2Proof.Laws

/-- Decoding the encoding of a well-formed operation gives it back. -/
def RoundTrip.Statement (i : Instr) : Prop :=
  i.wellFormed = true → decode (encode i) = .instr i

/-- An internal operation round-trips because its operands are carried whole (R90). -/
theorem RoundTrip.internal (op : InternalOp) (h : op.toInstr.wellFormed = true) :
    decode (.internal op) = .instr op.toInstr := by
  simp [decode, decodeInternal, h]

theorem RoundTrip.p : RoundTrip.Statement .p := fun _ => by decide

theorem RoundTrip.h : RoundTrip.Statement .h := fun _ => by decide

theorem RoundTrip.v0 : RoundTrip.Statement .v0 := fun _ => by decide

theorem RoundTrip.vr1 : RoundTrip.Statement .vr1 := fun _ => by decide

theorem RoundTrip.vr2 : RoundTrip.Statement .vr2 := fun _ => by decide

theorem RoundTrip.vr3 : RoundTrip.Statement .vr3 := fun _ => by decide

theorem RoundTrip.vl1 : RoundTrip.Statement .vl1 := fun _ => by decide

theorem RoundTrip.vl2 : RoundTrip.Statement .vl2 := fun _ => by decide

theorem RoundTrip.vl3 : RoundTrip.Statement .vl3 := fun _ => by decide

theorem RoundTrip.wt0 : RoundTrip.Statement .wt0 := fun _ => by decide

theorem RoundTrip.wt1 : RoundTrip.Statement .wt1 := fun _ => by decide

theorem RoundTrip.wt2 : RoundTrip.Statement .wt2 := fun _ => by decide

theorem RoundTrip.wt3 : RoundTrip.Statement .wt3 := fun _ => by decide

theorem RoundTrip.wt4 : RoundTrip.Statement .wt4 := fun _ => by decide

theorem RoundTrip.wt5 : RoundTrip.Statement .wt5 := fun _ => by decide

theorem RoundTrip.wt6 : RoundTrip.Statement .wt6 := fun _ => by decide

theorem RoundTrip.wt7 : RoundTrip.Statement .wt7 := fun _ => by decide

theorem RoundTrip.wt8 : RoundTrip.Statement .wt8 := fun _ => by decide

theorem RoundTrip.wt9 : RoundTrip.Statement .wt9 := fun _ => by decide

theorem RoundTrip.wt10 : RoundTrip.Statement .wt10 := fun _ => by decide

theorem RoundTrip.wt11 : RoundTrip.Statement .wt11 := fun _ => by decide

theorem RoundTrip.wt12 : RoundTrip.Statement .wt12 := fun _ => by decide

theorem RoundTrip.wt13 : RoundTrip.Statement .wt13 := fun _ => by decide

theorem RoundTrip.wt14 : RoundTrip.Statement .wt14 := fun _ => by decide

theorem RoundTrip.wt15 : RoundTrip.Statement .wt15 := fun _ => by decide

theorem RoundTrip.wt16 : RoundTrip.Statement .wt16 := fun _ => by decide

theorem RoundTrip.wt17 : RoundTrip.Statement .wt17 := fun _ => by decide

theorem RoundTrip.wt18 : RoundTrip.Statement .wt18 := fun _ => by decide

theorem RoundTrip.wt19 : RoundTrip.Statement .wt19 := fun _ => by decide

theorem RoundTrip.wt20 : RoundTrip.Statement .wt20 := fun _ => by decide

theorem RoundTrip.wt21 : RoundTrip.Statement .wt21 := fun _ => by decide

theorem RoundTrip.wt22 : RoundTrip.Statement .wt22 := fun _ => by decide

theorem RoundTrip.wt23 : RoundTrip.Statement .wt23 := fun _ => by decide

theorem RoundTrip.wt24 : RoundTrip.Statement .wt24 := fun _ => by decide

theorem RoundTrip.wt25 : RoundTrip.Statement .wt25 := fun _ => by decide

theorem RoundTrip.wt26 : RoundTrip.Statement .wt26 := fun _ => by decide

theorem RoundTrip.wt27 : RoundTrip.Statement .wt27 := fun _ => by decide

theorem RoundTrip.wt28 : RoundTrip.Statement .wt28 := fun _ => by decide

theorem RoundTrip.wt29 : RoundTrip.Statement .wt29 := fun _ => by decide

theorem RoundTrip.wt30 : RoundTrip.Statement .wt30 := fun _ => by decide

theorem RoundTrip.wt31 : RoundTrip.Statement .wt31 := fun _ => by decide

theorem RoundTrip.wt32 : RoundTrip.Statement .wt32 := fun _ => by decide

theorem RoundTrip.wt33 : RoundTrip.Statement .wt33 := fun _ => by decide

theorem RoundTrip.wt34 : RoundTrip.Statement .wt34 := fun _ => by decide

theorem RoundTrip.wt35 : RoundTrip.Statement .wt35 := fun _ => by decide

theorem RoundTrip.wt36 : RoundTrip.Statement .wt36 := fun _ => by decide

theorem RoundTrip.wt37 : RoundTrip.Statement .wt37 := fun _ => by decide

theorem RoundTrip.wt38 : RoundTrip.Statement .wt38 := fun _ => by decide

theorem RoundTrip.wt39 : RoundTrip.Statement .wt39 := fun _ => by decide

theorem RoundTrip.wt40 : RoundTrip.Statement .wt40 := fun _ => by decide

theorem RoundTrip.wt41 : RoundTrip.Statement .wt41 := fun _ => by decide

theorem RoundTrip.wt42 : RoundTrip.Statement .wt42 := fun _ => by decide

theorem RoundTrip.wt43 : RoundTrip.Statement .wt43 := fun _ => by decide

theorem RoundTrip.wt44 : RoundTrip.Statement .wt44 := fun _ => by decide

theorem RoundTrip.wt45 : RoundTrip.Statement .wt45 := fun _ => by decide

theorem RoundTrip.wt46 : RoundTrip.Statement .wt46 := fun _ => by decide

theorem RoundTrip.wt47 : RoundTrip.Statement .wt47 := fun _ => by decide

theorem RoundTrip.wt48 : RoundTrip.Statement .wt48 := fun _ => by decide

theorem RoundTrip.wt49 : RoundTrip.Statement .wt49 := fun _ => by decide

theorem RoundTrip.wt50 : RoundTrip.Statement .wt50 := fun _ => by decide

theorem RoundTrip.wt51 : RoundTrip.Statement .wt51 := fun _ => by decide

theorem RoundTrip.wt52 : RoundTrip.Statement .wt52 := fun _ => by decide

theorem RoundTrip.wt53 : RoundTrip.Statement .wt53 := fun _ => by decide

theorem RoundTrip.wt54 : RoundTrip.Statement .wt54 := fun _ => by decide

theorem RoundTrip.wt55 : RoundTrip.Statement .wt55 := fun _ => by decide

theorem RoundTrip.wt56 : RoundTrip.Statement .wt56 := fun _ => by decide

theorem RoundTrip.wt57 : RoundTrip.Statement .wt57 := fun _ => by decide

theorem RoundTrip.wt58 : RoundTrip.Statement .wt58 := fun _ => by decide

theorem RoundTrip.wt59 : RoundTrip.Statement .wt59 := fun _ => by decide

theorem RoundTrip.wt60 : RoundTrip.Statement .wt60 := fun _ => by decide

theorem RoundTrip.wt61 : RoundTrip.Statement .wt61 := fun _ => by decide

theorem RoundTrip.wt62 : RoundTrip.Statement .wt62 := fun _ => by decide

theorem RoundTrip.wt63 : RoundTrip.Statement .wt63 := fun _ => by decide

theorem RoundTrip.bt0 : RoundTrip.Statement .bt0 := fun _ => by decide

theorem RoundTrip.bt1 : RoundTrip.Statement .bt1 := fun _ => by decide

theorem RoundTrip.bt2 : RoundTrip.Statement .bt2 := fun _ => by decide

theorem RoundTrip.bt3 : RoundTrip.Statement .bt3 := fun _ => by decide

theorem RoundTrip.bt4 : RoundTrip.Statement .bt4 := fun _ => by decide

theorem RoundTrip.bt5 : RoundTrip.Statement .bt5 := fun _ => by decide

theorem RoundTrip.bt6 : RoundTrip.Statement .bt6 := fun _ => by decide

theorem RoundTrip.bt7 : RoundTrip.Statement .bt7 := fun _ => by decide

theorem RoundTrip.bt8 : RoundTrip.Statement .bt8 := fun _ => by decide

theorem RoundTrip.bt9 : RoundTrip.Statement .bt9 := fun _ => by decide

theorem RoundTrip.bt10 : RoundTrip.Statement .bt10 := fun _ => by decide

theorem RoundTrip.bt11 : RoundTrip.Statement .bt11 := fun _ => by decide

theorem RoundTrip.bt12 : RoundTrip.Statement .bt12 := fun _ => by decide

theorem RoundTrip.bt13 : RoundTrip.Statement .bt13 := fun _ => by decide

theorem RoundTrip.bt14 : RoundTrip.Statement .bt14 := fun _ => by decide

theorem RoundTrip.bt15 : RoundTrip.Statement .bt15 := fun _ => by decide

theorem RoundTrip.bt16 : RoundTrip.Statement .bt16 := fun _ => by decide

theorem RoundTrip.bt17 : RoundTrip.Statement .bt17 := fun _ => by decide

theorem RoundTrip.bt18 : RoundTrip.Statement .bt18 := fun _ => by decide

theorem RoundTrip.bt19 : RoundTrip.Statement .bt19 := fun _ => by decide

theorem RoundTrip.bt20 : RoundTrip.Statement .bt20 := fun _ => by decide

theorem RoundTrip.bt21 : RoundTrip.Statement .bt21 := fun _ => by decide

theorem RoundTrip.bt22 : RoundTrip.Statement .bt22 := fun _ => by decide

theorem RoundTrip.bt23 : RoundTrip.Statement .bt23 := fun _ => by decide

theorem RoundTrip.bt24 : RoundTrip.Statement .bt24 := fun _ => by decide

theorem RoundTrip.bt25 : RoundTrip.Statement .bt25 := fun _ => by decide

theorem RoundTrip.bt26 : RoundTrip.Statement .bt26 := fun _ => by decide

theorem RoundTrip.bt27 : RoundTrip.Statement .bt27 := fun _ => by decide

theorem RoundTrip.bt28 : RoundTrip.Statement .bt28 := fun _ => by decide

theorem RoundTrip.bt29 : RoundTrip.Statement .bt29 := fun _ => by decide

theorem RoundTrip.bt30 : RoundTrip.Statement .bt30 := fun _ => by decide

theorem RoundTrip.bt31 : RoundTrip.Statement .bt31 := fun _ => by decide

theorem RoundTrip.bt32 : RoundTrip.Statement .bt32 := fun _ => by decide

theorem RoundTrip.bt33 : RoundTrip.Statement .bt33 := fun _ => by decide

theorem RoundTrip.bt34 : RoundTrip.Statement .bt34 := fun _ => by decide

theorem RoundTrip.bt35 : RoundTrip.Statement .bt35 := fun _ => by decide

theorem RoundTrip.bt36 : RoundTrip.Statement .bt36 := fun _ => by decide

theorem RoundTrip.bt37 : RoundTrip.Statement .bt37 := fun _ => by decide

theorem RoundTrip.bt38 : RoundTrip.Statement .bt38 := fun _ => by decide

theorem RoundTrip.bt39 : RoundTrip.Statement .bt39 := fun _ => by decide

theorem RoundTrip.bt40 : RoundTrip.Statement .bt40 := fun _ => by decide

theorem RoundTrip.bt41 : RoundTrip.Statement .bt41 := fun _ => by decide

theorem RoundTrip.bt42 : RoundTrip.Statement .bt42 := fun _ => by decide

theorem RoundTrip.bt43 : RoundTrip.Statement .bt43 := fun _ => by decide

theorem RoundTrip.bt44 : RoundTrip.Statement .bt44 := fun _ => by decide

theorem RoundTrip.bt45 : RoundTrip.Statement .bt45 := fun _ => by decide

theorem RoundTrip.bt46 : RoundTrip.Statement .bt46 := fun _ => by decide

theorem RoundTrip.bt47 : RoundTrip.Statement .bt47 := fun _ => by decide

theorem RoundTrip.bt48 : RoundTrip.Statement .bt48 := fun _ => by decide

theorem RoundTrip.bt49 : RoundTrip.Statement .bt49 := fun _ => by decide

theorem RoundTrip.bt50 : RoundTrip.Statement .bt50 := fun _ => by decide

theorem RoundTrip.bt51 : RoundTrip.Statement .bt51 := fun _ => by decide

theorem RoundTrip.bt52 : RoundTrip.Statement .bt52 := fun _ => by decide

theorem RoundTrip.bt53 : RoundTrip.Statement .bt53 := fun _ => by decide

theorem RoundTrip.bt54 : RoundTrip.Statement .bt54 := fun _ => by decide

theorem RoundTrip.bt55 : RoundTrip.Statement .bt55 := fun _ => by decide

theorem RoundTrip.bt56 : RoundTrip.Statement .bt56 := fun _ => by decide

theorem RoundTrip.bt57 : RoundTrip.Statement .bt57 := fun _ => by decide

theorem RoundTrip.bt58 : RoundTrip.Statement .bt58 := fun _ => by decide

theorem RoundTrip.bt59 : RoundTrip.Statement .bt59 := fun _ => by decide

theorem RoundTrip.bt60 : RoundTrip.Statement .bt60 := fun _ => by decide

theorem RoundTrip.bt61 : RoundTrip.Statement .bt61 := fun _ => by decide

theorem RoundTrip.bt62 : RoundTrip.Statement .bt62 := fun _ => by decide

theorem RoundTrip.bt63 : RoundTrip.Statement .bt63 := fun _ => by decide

theorem RoundTrip.wm64 : RoundTrip.Statement .wm64 := fun _ => by decide

theorem RoundTrip.wm128 : RoundTrip.Statement .wm128 := fun _ => by decide

theorem RoundTrip.wm192 : RoundTrip.Statement .wm192 := fun _ => by decide

theorem RoundTrip.wm256 : RoundTrip.Statement .wm256 := fun _ => by decide

theorem RoundTrip.wm320 : RoundTrip.Statement .wm320 := fun _ => by decide

theorem RoundTrip.wm384 : RoundTrip.Statement .wm384 := fun _ => by decide

theorem RoundTrip.wm448 : RoundTrip.Statement .wm448 := fun _ => by decide

theorem RoundTrip.wm512 : RoundTrip.Statement .wm512 := fun _ => by decide

theorem RoundTrip.wm576 : RoundTrip.Statement .wm576 := fun _ => by decide

theorem RoundTrip.wm640 : RoundTrip.Statement .wm640 := fun _ => by decide

theorem RoundTrip.wm704 : RoundTrip.Statement .wm704 := fun _ => by decide

theorem RoundTrip.wm768 : RoundTrip.Statement .wm768 := fun _ => by decide

theorem RoundTrip.wm832 : RoundTrip.Statement .wm832 := fun _ => by decide

theorem RoundTrip.wm896 : RoundTrip.Statement .wm896 := fun _ => by decide

theorem RoundTrip.wm960 : RoundTrip.Statement .wm960 := fun _ => by decide

theorem RoundTrip.wm1024 : RoundTrip.Statement .wm1024 := fun _ => by decide

theorem RoundTrip.wm1088 : RoundTrip.Statement .wm1088 := fun _ => by decide

theorem RoundTrip.wm1152 : RoundTrip.Statement .wm1152 := fun _ => by decide

theorem RoundTrip.wm1216 : RoundTrip.Statement .wm1216 := fun _ => by decide

theorem RoundTrip.wm1280 : RoundTrip.Statement .wm1280 := fun _ => by decide

theorem RoundTrip.wm1344 : RoundTrip.Statement .wm1344 := fun _ => by decide

theorem RoundTrip.wm1408 : RoundTrip.Statement .wm1408 := fun _ => by decide

theorem RoundTrip.wm1472 : RoundTrip.Statement .wm1472 := fun _ => by decide

theorem RoundTrip.wm1536 : RoundTrip.Statement .wm1536 := fun _ => by decide

theorem RoundTrip.wm1600 : RoundTrip.Statement .wm1600 := fun _ => by decide

theorem RoundTrip.wm1664 : RoundTrip.Statement .wm1664 := fun _ => by decide

theorem RoundTrip.wm1728 : RoundTrip.Statement .wm1728 := fun _ => by decide

theorem RoundTrip.bm64 : RoundTrip.Statement .bm64 := fun _ => by decide

theorem RoundTrip.bm128 : RoundTrip.Statement .bm128 := fun _ => by decide

theorem RoundTrip.bm192 : RoundTrip.Statement .bm192 := fun _ => by decide

theorem RoundTrip.bm256 : RoundTrip.Statement .bm256 := fun _ => by decide

theorem RoundTrip.bm320 : RoundTrip.Statement .bm320 := fun _ => by decide

theorem RoundTrip.bm384 : RoundTrip.Statement .bm384 := fun _ => by decide

theorem RoundTrip.bm448 : RoundTrip.Statement .bm448 := fun _ => by decide

theorem RoundTrip.bm512 : RoundTrip.Statement .bm512 := fun _ => by decide

theorem RoundTrip.bm576 : RoundTrip.Statement .bm576 := fun _ => by decide

theorem RoundTrip.bm640 : RoundTrip.Statement .bm640 := fun _ => by decide

theorem RoundTrip.bm704 : RoundTrip.Statement .bm704 := fun _ => by decide

theorem RoundTrip.bm768 : RoundTrip.Statement .bm768 := fun _ => by decide

theorem RoundTrip.bm832 : RoundTrip.Statement .bm832 := fun _ => by decide

theorem RoundTrip.bm896 : RoundTrip.Statement .bm896 := fun _ => by decide

theorem RoundTrip.bm960 : RoundTrip.Statement .bm960 := fun _ => by decide

theorem RoundTrip.bm1024 : RoundTrip.Statement .bm1024 := fun _ => by decide

theorem RoundTrip.bm1088 : RoundTrip.Statement .bm1088 := fun _ => by decide

theorem RoundTrip.bm1152 : RoundTrip.Statement .bm1152 := fun _ => by decide

theorem RoundTrip.bm1216 : RoundTrip.Statement .bm1216 := fun _ => by decide

theorem RoundTrip.bm1280 : RoundTrip.Statement .bm1280 := fun _ => by decide

theorem RoundTrip.bm1344 : RoundTrip.Statement .bm1344 := fun _ => by decide

theorem RoundTrip.bm1408 : RoundTrip.Statement .bm1408 := fun _ => by decide

theorem RoundTrip.bm1472 : RoundTrip.Statement .bm1472 := fun _ => by decide

theorem RoundTrip.bm1536 : RoundTrip.Statement .bm1536 := fun _ => by decide

theorem RoundTrip.bm1600 : RoundTrip.Statement .bm1600 := fun _ => by decide

theorem RoundTrip.bm1664 : RoundTrip.Statement .bm1664 := fun _ => by decide

theorem RoundTrip.bm1728 : RoundTrip.Statement .bm1728 := fun _ => by decide

theorem RoundTrip.xm1792 : RoundTrip.Statement .xm1792 := fun _ => by decide

theorem RoundTrip.xm1856 : RoundTrip.Statement .xm1856 := fun _ => by decide

theorem RoundTrip.xm1920 : RoundTrip.Statement .xm1920 := fun _ => by decide

theorem RoundTrip.xm1984 : RoundTrip.Statement .xm1984 := fun _ => by decide

theorem RoundTrip.xm2048 : RoundTrip.Statement .xm2048 := fun _ => by decide

theorem RoundTrip.xm2112 : RoundTrip.Statement .xm2112 := fun _ => by decide

theorem RoundTrip.xm2176 : RoundTrip.Statement .xm2176 := fun _ => by decide

theorem RoundTrip.xm2240 : RoundTrip.Statement .xm2240 := fun _ => by decide

theorem RoundTrip.xm2304 : RoundTrip.Statement .xm2304 := fun _ => by decide

theorem RoundTrip.xm2368 : RoundTrip.Statement .xm2368 := fun _ => by decide

theorem RoundTrip.xm2432 : RoundTrip.Statement .xm2432 := fun _ => by decide

theorem RoundTrip.xm2496 : RoundTrip.Statement .xm2496 := fun _ => by decide

theorem RoundTrip.xm2560 : RoundTrip.Statement .xm2560 := fun _ => by decide

theorem RoundTrip.eofb : RoundTrip.Statement .eofb := fun _ => by decide

theorem RoundTrip.align : RoundTrip.Statement .align := fun _ => by decide

theorem RoundTrip.final : RoundTrip.Statement .final := fun _ => by decide

theorem RoundTrip.init : RoundTrip.Statement .init := fun _ => by decide

theorem RoundTrip.row : RoundTrip.Statement .row := fun _ => by decide

theorem RoundTrip.eofbCmd : RoundTrip.Statement .eofbCmd := fun _ => by decide

theorem RoundTrip.clear : RoundTrip.Statement .clear := fun _ => by decide

theorem RoundTrip.wrWidth (w : BitVec 12) : RoundTrip.Statement (.wrWidth w) := by
  intro _
  simp [encode, decode, decodeWrite]

theorem RoundTrip.wrCtrl (ba : Bool) : RoundTrip.Statement (.wrCtrl ba) := by
  cases ba <;> exact fun _ => by decide

theorem RoundTrip.pix (c : Colour) : RoundTrip.Statement (.pix c) := by
  cases c <;> exact fun _ => by decide

theorem RoundTrip.rdStatus : RoundTrip.Statement .rdStatus := fun _ => by decide

theorem RoundTrip.rdLoadcnt : RoundTrip.Statement .rdLoadcnt := fun _ => by decide

theorem RoundTrip.scan (l : Buffer) (n : BitVec 12) (s : BitVec 13) : RoundTrip.Statement (.scan l n s) := fun h =>
  RoundTrip.internal (.scan l n s) h

theorem RoundTrip.rowenc : RoundTrip.Statement .rowenc := fun h => RoundTrip.internal .rowenc h

theorem RoundTrip.run (n : BitVec 12) (c : Colour) : RoundTrip.Statement (.run n c) := fun h =>
  RoundTrip.internal (.run n c) h

theorem RoundTrip.emit (s : BitVec 6) : RoundTrip.Statement (.emit s) := fun h =>
  RoundTrip.internal (.emit s) h

theorem RoundTrip.lookupMode (s : BitVec 6) : RoundTrip.Statement (.lookupMode s) := fun h =>
  RoundTrip.internal (.lookupMode s) h

theorem RoundTrip.lookupTerm (c : Colour) (r : BitVec 6) : RoundTrip.Statement (.lookupTerm c r) := fun h =>
  RoundTrip.internal (.lookupTerm c r) h

theorem RoundTrip.lookupMakeup (c : Colour) (q : BitVec 6) : RoundTrip.Statement (.lookupMakeup c q) := fun h =>
  RoundTrip.internal (.lookupMakeup c q) h

end Sys2Proof.Laws
end

