-- ==== Sys2Proof/Laws/Script.lean ====
section
/-! SUPPORT. What an operation does under another script of the sink: up to the first answer that differs it issues the
same transactions, and there it goes on, takes SinkWriteFailure or gets stuck as the new answer says. -/

namespace Sys2Proof.Machine

open Sys2Proof

/-- An operation `f` that comes to `t` from `s` issues `n` transactions, one answer each; under a script that agrees on
the first `k` answers it comes to the same where it issues no more than `k`, and else stops at transaction `k` as the
answer there says. -/
def FollowsScript (f : State → Flow) (s : State) : Prop :=
  ∀ t b, f s = .run t b → ∃ n, t.txCount = s.txCount + n ∧ t.sinkLog.length = s.sinkLog.length + n ∧
    s.sinkLog <+: t.sinkLog ∧ t.sinkAnswers = s.sinkAnswers.drop n ∧
    ∀ k, k ≤ s.sinkAnswers.length → ∀ more,
      (n ≤ k → f (s.scripted (s.sinkAnswers.take k ++ more)) =
        .run (t.scripted ((s.sinkAnswers.take k).drop n ++ more)) b) ∧
      (k < n → f (s.scripted (s.sinkAnswers.take k ++ .silent :: more)) = .stop .sinkNoAnswer ∧
        ∃ e u, t.sinkLog[s.sinkLog.length + k]? = some e ∧
          f (s.scripted (s.sinkAnswers.take k ++ .fail :: more)) = .run u true ∧
          u.sinkLog = t.sinkLog.take (s.sinkLog.length + k) ++ [{ e with accepted := false }] ∧
          u.sinkAnswers = more ∧ u.txCount = s.txCount + k + 1 ∧
          u.phase = .error ∧ u.errcode = .sinkWriteFailure)

@[simp] theorem State.scripted_scripted (a b : List SinkAnswer) (s : State) :
    (s.scripted a).scripted b = s.scripted b := rfl

@[simp] theorem State.scripted_self (s : State) : s.scripted s.sinkAnswers = s := rfl

/-- Following the script depends on what an operation does under the scripts alone. -/
theorem FollowsScript.congr {f g : State → Flow} {s : State} (h : ∀ a, f (s.scripted a) = g (s.scripted a))
    (hg : FollowsScript g s) : FollowsScript f s := by
  intro t b hf
  rw [show f s = g s from h s.sinkAnswers] at hf
  obtain ⟨n, h1, h2, h3, h4, h5⟩ := hg t b hf
  exact ⟨n, h1, h2, h3, h4, fun k hk more => by simpa only [h] using h5 k hk more⟩

/-- An operation that issues nothing and does not look at the script. -/
theorem FollowsScript.of_quiet {f : State → Flow} {s : State}
    (h : ∀ t b, f s = .run t b → t.sinkLog = s.sinkLog ∧ t.txCount = s.txCount ∧ t.sinkAnswers = s.sinkAnswers ∧
      ∀ a, f (s.scripted a) = .run (t.scripted a) b) : FollowsScript f s := by
  intro t b hf
  obtain ⟨h1, h2, h3, h4⟩ := h t b hf
  exact ⟨0, h2, by rw [h1]; rfl, by rw [h1], h3, fun k _ more => ⟨fun _ => h4 _, fun h => absurd h (by omega)⟩⟩

/-- An update of the state that leaves the sink alone. -/
theorem FollowsScript.of_update {g : State → State} {b : Bool} {s : State} (hl : (g s).sinkLog = s.sinkLog)
    (hn : (g s).txCount = s.txCount) (ha : (g s).sinkAnswers = s.sinkAnswers)
    (h : ∀ a, g (s.scripted a) = (g s).scripted a) : FollowsScript (fun t => .run (g t) b) s := by
  refine .of_quiet fun t c hf => ?_
  simp only [Flow.run.injEq] at hf
  obtain ⟨rfl, rfl⟩ := hf
  exact ⟨hl, hn, ha, fun a => by rw [h]⟩

/-- Two operations in sequence follow the script where each does. -/
theorem FollowsScript.andThen {f g : State → Flow} {s : State} (hf : FollowsScript f s)
    (hg : ∀ t, f s = .run t false → FollowsScript g t) : FollowsScript (fun t => (f t).andThen g) s := by
  intro t b h
  rcases Flow.andThen_eq_run h with ⟨rfl, h1⟩ | ⟨v, h1, h2⟩
  · obtain ⟨n, e1, e2, e3, e4, e5⟩ := hf _ _ h1
    refine ⟨n, e1, e2, e3, e4, fun k hk more => ⟨fun hn => by simp only [(e5 k hk more).1 hn, Flow.run_true_andThen],
      fun hn => ?_⟩⟩
    obtain ⟨f1, e, u, f2, f3, f4⟩ := (e5 k hk more).2 hn
    exact ⟨by simp only [f1, Flow.stop_andThen], e, u, f2, by simp only [f3, Flow.run_true_andThen], f4⟩
  · obtain ⟨n, e1, e2, e3, e4, e5⟩ := hf _ _ h1
    obtain ⟨m, g1, g2, g3, g4, g5⟩ := hg v h1 _ _ h2
    refine ⟨n + m, by omega, by omega, e3.trans g3, by rw [g4, e4, List.drop_drop], fun k hk more => ?_⟩
    have after : n ≤ k → ∀ more, (f (s.scripted (s.sinkAnswers.take k ++ more))).andThen g =
        g (v.scripted (v.sinkAnswers.take (k - n) ++ more)) := fun hn more => by
      rw [(e5 k hk more).1 hn, Flow.run_false_andThen, e4, List.drop_take]
    have hle : k - n ≤ v.sinkAnswers.length := by rw [e4, List.length_drop]; omega
    constructor
    · intro hn
      show (f _).andThen g = _
      rw [after (by omega), (g5 _ hle more).1 (by omega), e4, ← List.drop_take, List.drop_drop]
    · intro hn
      rcases Nat.lt_or_ge k n with hkn | hkn
      · obtain ⟨f1, e, u, f2, f3, f4, f5⟩ := (e5 k hk more).2 hkn
        refine ⟨by simp only [f1, Flow.stop_andThen], e, u, ?_, by simp only [f3, Flow.run_true_andThen], ?_, f5⟩
        · obtain ⟨l, hl⟩ := g3
          rw [← hl, List.getElem?_append_left (by omega), f2]
        · obtain ⟨l, hl⟩ := g3
          rw [f4, ← hl, List.take_append_of_le_length (by omega)]
      · obtain ⟨f1, e, u, f2, f3, f4, f5, f6, f7⟩ := (g5 _ hle more).2 (show k - n < m by omega)
        have hlen : v.sinkLog.length + (k - n) = s.sinkLog.length + k := by omega
        rw [hlen] at f2 f4
        exact ⟨(after hkn _).trans f1, e, u, f2, (after hkn _).trans f3, f4, f5, by omega, f7⟩

/-! ### The operations -/

theorem sinkTransact_followsScript (tx : SinkTx) (s : State) : FollowsScript (sinkTransact tx) s := by
  intro t b h
  have one : t.txCount = s.txCount + 1 ∧ t.sinkLog = s.sinkLog ++ [⟨s.txCount, tx, !b⟩] ∧
      t.sinkAnswers = s.sinkAnswers.tail := by
    rcases sinkTransact_cases h with ⟨rfl, rfl⟩ | ⟨rfl, rfl⟩ <;> simp
  obtain ⟨h1, h2, h3⟩ := one
  refine ⟨1, h1, by simp [h2], by simp [h2], by simp [h3], fun k hk more => ⟨fun hn => ?_, fun hn => ?_⟩⟩
  · match hs : s.sinkAnswers, k, hn with
    | [], k + 1, _ => simp [hs] at hk
    | a :: rest, k + 1, _ =>
      revert h
      cases a <;> simp only [sinkTransact, State.sinkVerdict, hs, State.scripted_sinkAnswers, List.take_succ_cons,
        List.cons_append, List.drop_succ_cons, List.drop_zero] <;> intro h
      · simp only [Flow.run.injEq] at h
        obtain ⟨rfl, rfl⟩ := h
        rfl
      · simp only [Flow.run.injEq] at h
        obtain ⟨rfl, rfl⟩ := h
        rfl
      · simp at h
  · obtain rfl : k = 0 := by omega
    exact ⟨rfl, ⟨s.txCount, tx, !b⟩, (s.scripted (.fail :: more)).sinkRefused tx, by simp [h2], rfl, by simp [h2], rfl,
      rfl, rfl, rfl⟩

theorem sendFrom_followsScript (addr : BitVec 9) (s : State) : FollowsScript (sendFrom addr) s := by
  intro t b h
  obtain ⟨c, hc, h⟩ := sendFrom_eq_run h
  have : sendFrom addr = sinkTransact (.writeCode c) := by
    funext s
    simp [sendFrom, hc, sinkCode]
  rw [this]
  exact sinkTransact_followsScript _ _ t b h

theorem runMakeup_followsScript (n : Nat) (c : Colour) (s : State) : FollowsScript (runMakeup n c) s := by
  unfold runMakeup
  split
  · exact .of_update rfl rfl rfl fun _ => rfl
  · split
    · exact .of_update (g := fun s => s.raise .runLengthRange) rfl rfl rfl fun _ => rfl
    · exact .congr (g := sendMakeup c s.q) (fun _ => rfl) (sendFrom_followsScript _ _)

/-- An update that leaves the sink alone, and then an operation. -/
theorem FollowsScript.after_update {f : State → Flow} {g : State → State} {s : State} (hl : (g s).sinkLog = s.sinkLog)
    (hn : (g s).txCount = s.txCount) (ha : (g s).sinkAnswers = s.sinkAnswers)
    (h : ∀ a, g (s.scripted a) = (g s).scripted a) (hf : FollowsScript f (g s)) :
    FollowsScript (fun t => f (g t)) s :=
  .congr (g := fun t => (Flow.run (g t) false).andThen f) (fun _ => rfl)
    (.andThen (.of_update hl hn ha h) fun t ht => by
      simp only [Flow.run.injEq, and_true] at ht
      exact ht ▸ hf)

theorem runLength_followsScript (n : Nat) (c : Colour) (s : State) : FollowsScript (runLength n c) s :=
  .after_update (f := fun t => (runMakeup n c t).andThen fun t => sendTerm c t.r t) (g := fun s => s.splitRun n)
    rfl rfl rfl (fun _ => rfl) (.andThen (runMakeup_followsScript n c _) fun t _ =>
      .congr (g := sendTerm c t.r) (fun _ => rfl) (sendFrom_followsScript _ _))

theorem passMode_followsScript (s : State) : FollowsScript passMode s :=
  .andThen (sendFrom_followsScript _ _) fun _ _ =>
    .of_update (g := fun t => { t with a0 := t.b2.setWidth 13 }) rfl rfl rfl fun _ => rfl

theorem verticalMode_followsScript (sym : BitVec 6) (s : State) : FollowsScript (verticalMode sym) s :=
  .andThen (sendFrom_followsScript _ _) fun _ _ =>
    .of_update (g := fun t => { t with a0 := t.a1.setWidth 13, a0c := opp t.a0c }) rfl rfl rfl fun _ => rfl

theorem sendRuns_followsScript (s : State) : FollowsScript sendRuns s :=
  .congr (g := fun s' => (runLength s.firstRun.toNat s.a0c s').andThen _) (fun _ => rfl)
    (.andThen (runLength_followsScript _ _ _) fun t _ =>
      .congr (g := fun t' => (runLength t.secondRun.toNat (opp t.a0c) t').andThen _) (fun _ => rfl)
        (.andThen (runLength_followsScript _ _ _) fun _ _ =>
          .of_update (g := fun u => { u with a0 := u.a2.setWidth 13 }) rfl rfl rfl fun _ => rfl))

theorem readPixel_scripted (l : Buffer) (i : Nat) (s : State) (a : List SinkAnswer) :
    readPixel l i (s.scripted a) = readPixel l i s := by
  cases l <;> rfl

theorem scanLine_scripted (l : Buffer) (n : Nat) (start : Int) (s : State) (a : List SinkAnswer) :
    scanLine l n start (s.scripted a) = scanLine l n start s := by
  cases l <;> exact scanLine_congr (by rfl) (by rfl) n start

theorem findB1_scripted (s : State) (a : List SinkAnswer) : findB1 (s.scripted a) = findB1 s := by
  unfold findB1
  simp only [scanLine_scripted, readPixel_scripted, State.scripted_a0, State.scripted_w, State.scripted_a0c]

theorem measureRuns_followsScript (s : State) : FollowsScript measureRuns s := by
  refine .of_quiet fun t b h => ?_
  obtain ⟨j, rfl, hj, rfl, h1, h2⟩ := measureRuns_eq_run h
  refine ⟨rfl, rfl, rfl, fun a => ?_⟩
  unfold measureRuns
  simp only [scanLine_scripted, State.scripted_w, State.scripted_a1, hj]
  exact if_neg fun h => h.elim (not_lt.2 h1) (not_lt.2 h2)

theorem horizontalMode_followsScript (s : State) : FollowsScript horizontalMode s :=
  .andThen (f := fun s => (emitSymbol 1 s).andThen measureRuns)
    (.andThen (sendFrom_followsScript _ _) fun t _ => measureRuns_followsScript t) fun t _ => sendRuns_followsScript t

theorem detectA1_followsScript (s : State) : FollowsScript detectA1 s := by
  refine .of_quiet fun t b h => ?_
  obtain ⟨j, rfl, hj, rfl⟩ := detectA1_eq_run h
  refine ⟨rfl, rfl, rfl, fun a => ?_⟩
  unfold detectA1
  simp only [scanLine_scripted, State.scripted_w, State.scripted_a0, hj]
  rfl

theorem detectB_followsScript (s : State) : FollowsScript detectB s := by
  refine .of_quiet fun t b h => ?_
  obtain ⟨rfl, ⟨hr, rfl⟩ | ⟨hr, j, k, hj, hk, rfl⟩⟩ := detectB_eq_run h <;> refine ⟨rfl, rfl, rfl, fun a => ?_⟩ <;>
    unfold detectB
  · exact if_pos hr
  · simp only [findB1_scripted, scanLine_scripted, State.scripted_w, State.scripted_refv, hj, hk, hr]
    rfl

theorem performMode_followsScript (s : State) : FollowsScript performMode s := by
  have writeD (f : State → Flow) (x : BitVec 13) (hf : ∀ t, FollowsScript f t) :
      FollowsScript (fun t => f { t with d := x }) s :=
    .after_update (g := fun t => { t with d := x }) rfl rfl rfl (fun _ => rfl) (hf _)
  cases hm : chooseMode s with
  | pass =>
    refine .congr (g := passMode) (fun a => ?_) (passMode_followsScript s)
    unfold performMode
    rw [show chooseMode (s.scripted a) = .pass from hm]
  | vertical =>
    refine .congr (fun a => ?_) (writeD _ (BitVec.ofInt 13 s.distance)
      (verticalMode_followsScript (verticalSymbol s.distance)))
    unfold performMode
    rw [show chooseMode (s.scripted a) = .vertical from hm]
    rfl
  | horizontal =>
    refine .congr (fun a => ?_) (writeD _ (BitVec.ofInt 13 s.distance) horizontalMode_followsScript)
    unfold performMode
    rw [show chooseMode (s.scripted a) = .horizontal from hm]
    rfl

theorem rowIteration_followsScript (s : State) : FollowsScript rowIteration s :=
  .andThen (f := fun s => ((detectA1 s).andThen detectB).andThen performMode)
    (.andThen (f := fun s => (detectA1 s).andThen detectB)
      (.andThen (detectA1_followsScript s) fun t _ => detectB_followsScript t) fun t _ => performMode_followsScript t)
    fun _ _ => .of_update (g := State.forgetTemps) rfl rfl rfl fun _ => rfl

theorem rowLoop_followsScript (n : Nat) (s : State) : FollowsScript (rowLoop n) s := by
  induction n generalizing s with
  | zero => exact .of_update (g := id) rfl rfl rfl fun _ => rfl
  | succ n ih =>
    by_cases h : s.a0.toInt < s.w
    · exact .congr (g := fun t => (rowIteration t).andThen (rowLoop n)) (fun _ => if_pos h)
        (.andThen (rowIteration_followsScript s) fun t _ => ih t)
    · exact .congr (g := fun t => .run t false) (fun _ => if_neg h) (.of_update (g := id) rfl rfl rfl fun _ => rfl)

theorem encodeRow_followsScript (s : State) : FollowsScript encodeRow s :=
  .congr (g := fun t => rowLoop (s.w + 1) t.startRow) (fun _ => rfl)
    (.after_update (g := State.startRow) rfl rfl rfl (fun _ => rfl) (rowLoop_followsScript _ _))

theorem codeRow_followsScript (s : State) : FollowsScript codeRow s := by
  by_cases h : s.loadcnt.toNat ≠ s.w
  · exact .congr (g := fun t => .run (t.raise .malformedInput) true) (fun _ => if_pos h)
      (.of_update (g := fun t => t.raise .malformedInput) rfl rfl rfl fun _ => rfl)
  · refine .congr (g := fun t => ((encodeRow t).andThen fun t => .run t.adoptRow false).andThen alignIfAsked)
      (fun _ => if_neg h) (.andThen (f := fun t => (encodeRow t).andThen fun t => .run t.adoptRow false)
        (.andThen (encodeRow_followsScript s) fun _ _ => .of_update (g := State.adoptRow) rfl rfl rfl fun _ => rfl)
        fun t _ => ?_)
    by_cases hb : t.ba = true
    · exact .congr (g := sinkTransact .alignToByteBoundary) (fun _ => if_pos hb) (sinkTransact_followsScript _ t)
    · exact .congr (g := fun t => .run t false) (fun _ => if_neg hb) (.of_update (g := id) rfl rfl rfl fun _ => rfl)

theorem closePage_followsScript (s : State) : FollowsScript closePage s := by
  by_cases h : s.loadcnt.toNat ≠ 0
  · exact .congr (g := fun t => .run (t.raise .malformedInput) true) (fun _ => if_pos h)
      (.of_update (g := fun t => t.raise .malformedInput) rfl rfl rfl fun _ => rfl)
  · exact .congr
      (g := fun t => ((sinkCode eofbCode t).andThen sinkFinalize).andThen fun t => .run { t with phase := .done } false)
      (fun _ => if_neg h) (.andThen (f := fun t => (sinkCode eofbCode t).andThen sinkFinalize)
        (.andThen (sinkTransact_followsScript _ s) fun t _ => sinkTransact_followsScript _ t)
        fun _ _ => .of_update (g := fun t => { t with phase := .done }) rfl rfl rfl fun _ => rfl)

end Sys2Proof.Machine
end

