-- ==== Sys2Proof/Tests/Slice0.lean ====
section
/-! SUPPORT. Tests: ill-formed operands refused, code words written out from the spec's tables, the spec's own worked
examples one operation at a time, and for every statement with hypotheses a state that meets them all. -/

namespace Sys2Proof.Tests

open Sys2Proof Sys2Proof.Machine

/-! ### WellFormed: one ill-formed operation for each check -/

theorem test_wf_refuses_scan_below_virtual : (Instr.scan .cur 8 (BitVec.ofInt 13 (-2))).wellFormed = false := by decide

theorem test_wf_refuses_emit_nine : (Instr.emit 9).wellFormed = false := by decide

theorem test_wf_refuses_lookup_mode_nine : (Instr.lookupMode 9).wellFormed = false := by decide

theorem test_wf_refuses_lookup_makeup_zero : (Instr.lookupMakeup .white 0).wellFormed = false := by decide

theorem test_wf_refuses_lookup_makeup_41 : (Instr.lookupMakeup .black 41).wellFormed = false := by decide

theorem test_decode_rejects_ill_formed :
    decode (.internal (.emit 9)) = .reject .operandOutsideContract := by decide

/-! ### Decoding -/

/-- Each bit string, written as 0 and 1 in transmission order, decodes to its operation. -/
abbrev DecodeAs (ctx : CodeContext) (rows : List (List Nat × Instr)) : Prop :=
  ∀ row ∈ rows, decode (.code ctx (row.1.map fun b => b == 1)) = .instr row.2

/-- 40_code_tables R124 and R130, written out bit by bit. -/
theorem test_decode_mode :
    DecodeAs .mode [
    ([0,0,0,1], .p), ([0,0,1], .h), ([1], .v0), ([0,1,1], .vr1), ([0,0,0,0,1,1], .vr2), ([0,0,0,0,0,1,1], .vr3),
    ([0,1,0], .vl1), ([0,0,0,0,1,0], .vl2), ([0,0,0,0,0,1,0], .vl3),
    ([0,0,0,0,0,0,0,0,0,0,0,1,0,0,0,0,0,0,0,0,0,0,0,1], .eofb)] := by
  decide +kernel

/-- 40_code_tables R125, written out bit by bit. -/
theorem test_decode_white_terminating :
    DecodeAs .white [
    ([0,0,1,1,0,1,0,1], .wt0), ([0,0,0,1,1,1], .wt1), ([0,1,1,1], .wt2), ([1,0,0,0], .wt3), ([1,0,1,1], .wt4),
    ([1,1,0,0], .wt5), ([1,1,1,0], .wt6), ([1,1,1,1], .wt7), ([1,0,0,1,1], .wt8), ([1,0,1,0,0], .wt9),
    ([0,0,1,1,1], .wt10), ([0,1,0,0,0], .wt11), ([0,0,1,0,0,0], .wt12), ([0,0,0,0,1,1], .wt13),
    ([1,1,0,1,0,0], .wt14), ([1,1,0,1,0,1], .wt15), ([1,0,1,0,1,0], .wt16), ([1,0,1,0,1,1], .wt17),
    ([0,1,0,0,1,1,1], .wt18), ([0,0,0,1,1,0,0], .wt19), ([0,0,0,1,0,0,0], .wt20), ([0,0,1,0,1,1,1], .wt21),
    ([0,0,0,0,0,1,1], .wt22), ([0,0,0,0,1,0,0], .wt23), ([0,1,0,1,0,0,0], .wt24), ([0,1,0,1,0,1,1], .wt25),
    ([0,0,1,0,0,1,1], .wt26), ([0,1,0,0,1,0,0], .wt27), ([0,0,1,1,0,0,0], .wt28), ([0,0,0,0,0,0,1,0], .wt29),
    ([0,0,0,0,0,0,1,1], .wt30), ([0,0,0,1,1,0,1,0], .wt31), ([0,0,0,1,1,0,1,1], .wt32), ([0,0,0,1,0,0,1,0], .wt33),
    ([0,0,0,1,0,0,1,1], .wt34), ([0,0,0,1,0,1,0,0], .wt35), ([0,0,0,1,0,1,0,1], .wt36), ([0,0,0,1,0,1,1,0], .wt37),
    ([0,0,0,1,0,1,1,1], .wt38), ([0,0,1,0,1,0,0,0], .wt39), ([0,0,1,0,1,0,0,1], .wt40), ([0,0,1,0,1,0,1,0], .wt41),
    ([0,0,1,0,1,0,1,1], .wt42), ([0,0,1,0,1,1,0,0], .wt43), ([0,0,1,0,1,1,0,1], .wt44), ([0,0,0,0,0,1,0,0], .wt45),
    ([0,0,0,0,0,1,0,1], .wt46), ([0,0,0,0,1,0,1,0], .wt47), ([0,0,0,0,1,0,1,1], .wt48), ([0,1,0,1,0,0,1,0], .wt49),
    ([0,1,0,1,0,0,1,1], .wt50), ([0,1,0,1,0,1,0,0], .wt51), ([0,1,0,1,0,1,0,1], .wt52), ([0,0,1,0,0,1,0,0], .wt53),
    ([0,0,1,0,0,1,0,1], .wt54), ([0,1,0,1,1,0,0,0], .wt55), ([0,1,0,1,1,0,0,1], .wt56), ([0,1,0,1,1,0,1,0], .wt57),
    ([0,1,0,1,1,0,1,1], .wt58), ([0,1,0,0,1,0,1,0], .wt59), ([0,1,0,0,1,0,1,1], .wt60), ([0,0,1,1,0,0,1,0], .wt61),
    ([0,0,1,1,0,0,1,1], .wt62), ([0,0,1,1,0,1,0,0], .wt63)] := by
  decide +kernel

/-- 40_code_tables R126, written out bit by bit. -/
theorem test_decode_black_terminating :
    DecodeAs .black [
    ([0,0,0,0,1,1,0,1,1,1], .bt0), ([0,1,0], .bt1), ([1,1], .bt2), ([1,0], .bt3), ([0,1,1], .bt4), ([0,0,1,1], .bt5),
    ([0,0,1,0], .bt6), ([0,0,0,1,1], .bt7), ([0,0,0,1,0,1], .bt8), ([0,0,0,1,0,0], .bt9), ([0,0,0,0,1,0,0], .bt10),
    ([0,0,0,0,1,0,1], .bt11), ([0,0,0,0,1,1,1], .bt12), ([0,0,0,0,0,1,0,0], .bt13), ([0,0,0,0,0,1,1,1], .bt14),
    ([0,0,0,0,1,1,0,0,0], .bt15), ([0,0,0,0,0,1,0,1,1,1], .bt16), ([0,0,0,0,0,1,1,0,0,0], .bt17),
    ([0,0,0,0,0,0,1,0,0,0], .bt18), ([0,0,0,0,1,1,0,0,1,1,1], .bt19), ([0,0,0,0,1,1,0,1,0,0,0], .bt20),
    ([0,0,0,0,1,1,0,1,1,0,0], .bt21), ([0,0,0,0,0,1,1,0,1,1,1], .bt22), ([0,0,0,0,0,1,0,1,0,0,0], .bt23),
    ([0,0,0,0,0,0,1,0,1,1,1], .bt24), ([0,0,0,0,0,0,1,1,0,0,0], .bt25), ([0,0,0,0,1,1,0,0,1,0,1,0], .bt26),
    ([0,0,0,0,1,1,0,0,1,0,1,1], .bt27), ([0,0,0,0,1,1,0,0,1,1,0,0], .bt28), ([0,0,0,0,1,1,0,0,1,1,0,1], .bt29),
    ([0,0,0,0,0,1,1,0,1,0,0,0], .bt30), ([0,0,0,0,0,1,1,0,1,0,0,1], .bt31), ([0,0,0,0,0,1,1,0,1,0,1,0], .bt32),
    ([0,0,0,0,0,1,1,0,1,0,1,1], .bt33), ([0,0,0,0,1,1,0,1,0,0,1,0], .bt34), ([0,0,0,0,1,1,0,1,0,0,1,1], .bt35),
    ([0,0,0,0,1,1,0,1,0,1,0,0], .bt36), ([0,0,0,0,1,1,0,1,0,1,0,1], .bt37), ([0,0,0,0,1,1,0,1,0,1,1,0], .bt38),
    ([0,0,0,0,1,1,0,1,0,1,1,1], .bt39), ([0,0,0,0,0,1,1,0,1,1,0,0], .bt40), ([0,0,0,0,0,1,1,0,1,1,0,1], .bt41),
    ([0,0,0,0,1,1,0,1,1,0,1,0], .bt42), ([0,0,0,0,1,1,0,1,1,0,1,1], .bt43), ([0,0,0,0,0,1,0,1,0,1,0,0], .bt44),
    ([0,0,0,0,0,1,0,1,0,1,0,1], .bt45), ([0,0,0,0,0,1,0,1,0,1,1,0], .bt46), ([0,0,0,0,0,1,0,1,0,1,1,1], .bt47),
    ([0,0,0,0,0,1,1,0,0,1,0,0], .bt48), ([0,0,0,0,0,1,1,0,0,1,0,1], .bt49), ([0,0,0,0,0,1,0,1,0,0,1,0], .bt50),
    ([0,0,0,0,0,1,0,1,0,0,1,1], .bt51), ([0,0,0,0,0,0,1,0,0,1,0,0], .bt52), ([0,0,0,0,0,0,1,1,0,1,1,1], .bt53),
    ([0,0,0,0,0,0,1,1,1,0,0,0], .bt54), ([0,0,0,0,0,0,1,0,0,1,1,1], .bt55), ([0,0,0,0,0,0,1,0,1,0,0,0], .bt56),
    ([0,0,0,0,0,1,0,1,1,0,0,0], .bt57), ([0,0,0,0,0,1,0,1,1,0,0,1], .bt58), ([0,0,0,0,0,0,1,0,1,0,1,1], .bt59),
    ([0,0,0,0,0,0,1,0,1,1,0,0], .bt60), ([0,0,0,0,0,1,0,1,1,0,1,0], .bt61), ([0,0,0,0,0,1,1,0,0,1,1,0], .bt62),
    ([0,0,0,0,0,1,1,0,0,1,1,1], .bt63)] := by
  decide +kernel

/-- 40_code_tables R127 and R129, written out bit by bit. -/
theorem test_decode_white_makeup :
    DecodeAs .white [
    ([1,1,0,1,1], .wm64), ([1,0,0,1,0], .wm128), ([0,1,0,1,1,1], .wm192), ([0,1,1,0,1,1,1], .wm256),
    ([0,0,1,1,0,1,1,0], .wm320), ([0,0,1,1,0,1,1,1], .wm384), ([0,1,1,0,0,1,0,0], .wm448),
    ([0,1,1,0,0,1,0,1], .wm512), ([0,1,1,0,1,0,0,0], .wm576), ([0,1,1,0,0,1,1,1], .wm640),
    ([0,1,1,0,0,1,1,0,0], .wm704), ([0,1,1,0,0,1,1,0,1], .wm768), ([0,1,1,0,1,0,0,1,0], .wm832),
    ([0,1,1,0,1,0,0,1,1], .wm896), ([0,1,1,0,1,0,1,0,0], .wm960), ([0,1,1,0,1,0,1,0,1], .wm1024),
    ([0,1,1,0,1,0,1,1,0], .wm1088), ([0,1,1,0,1,0,1,1,1], .wm1152), ([0,1,1,0,1,1,0,0,0], .wm1216),
    ([0,1,1,0,1,1,0,0,1], .wm1280), ([0,1,1,0,1,1,0,1,0], .wm1344), ([0,1,1,0,1,1,0,1,1], .wm1408),
    ([0,1,0,0,1,1,0,0,0], .wm1472), ([0,1,0,0,1,1,0,0,1], .wm1536), ([0,1,0,0,1,1,0,1,0], .wm1600),
    ([0,1,1,0,0,0], .wm1664), ([0,1,0,0,1,1,0,1,1], .wm1728), ([0,0,0,0,0,0,0,1,0,0,0], .xm1792),
    ([0,0,0,0,0,0,0,1,1,0,0], .xm1856), ([0,0,0,0,0,0,0,1,1,0,1], .xm1920), ([0,0,0,0,0,0,0,1,0,0,1,0], .xm1984),
    ([0,0,0,0,0,0,0,1,0,0,1,1], .xm2048), ([0,0,0,0,0,0,0,1,0,1,0,0], .xm2112), ([0,0,0,0,0,0,0,1,0,1,0,1], .xm2176),
    ([0,0,0,0,0,0,0,1,0,1,1,0], .xm2240), ([0,0,0,0,0,0,0,1,0,1,1,1], .xm2304), ([0,0,0,0,0,0,0,1,1,1,0,0], .xm2368),
    ([0,0,0,0,0,0,0,1,1,1,0,1], .xm2432), ([0,0,0,0,0,0,0,1,1,1,1,0], .xm2496), ([0,0,0,0,0,0,0,1,1,1,1,1], .xm2560)] := by
  decide +kernel

/-- 40_code_tables R128 and R129, written out bit by bit. -/
theorem test_decode_black_makeup :
    DecodeAs .black [
    ([0,0,0,0,0,0,1,1,1,1], .bm64), ([0,0,0,0,1,1,0,0,1,0,0,0], .bm128), ([0,0,0,0,1,1,0,0,1,0,0,1], .bm192),
    ([0,0,0,0,0,1,0,1,1,0,1,1], .bm256), ([0,0,0,0,0,0,1,1,0,0,1,1], .bm320), ([0,0,0,0,0,0,1,1,0,1,0,0], .bm384),
    ([0,0,0,0,0,0,1,1,0,1,0,1], .bm448), ([0,0,0,0,0,0,1,1,0,1,1,0,0], .bm512),
    ([0,0,0,0,0,0,1,1,0,1,1,0,1], .bm576), ([0,0,0,0,0,0,1,0,0,1,0,1,0], .bm640),
    ([0,0,0,0,0,0,1,0,0,1,0,1,1], .bm704), ([0,0,0,0,0,0,1,0,0,1,1,0,0], .bm768),
    ([0,0,0,0,0,0,1,0,0,1,1,0,1], .bm832), ([0,0,0,0,0,0,1,1,1,0,0,1,0], .bm896),
    ([0,0,0,0,0,0,1,1,1,0,0,1,1], .bm960), ([0,0,0,0,0,0,1,1,1,0,1,0,0], .bm1024),
    ([0,0,0,0,0,0,1,1,1,0,1,0,1], .bm1088), ([0,0,0,0,0,0,1,1,1,0,1,1,0], .bm1152),
    ([0,0,0,0,0,0,1,1,1,0,1,1,1], .bm1216), ([0,0,0,0,0,0,1,0,1,0,0,1,0], .bm1280),
    ([0,0,0,0,0,0,1,0,1,0,0,1,1], .bm1344), ([0,0,0,0,0,0,1,0,1,0,1,0,0], .bm1408),
    ([0,0,0,0,0,0,1,0,1,0,1,0,1], .bm1472), ([0,0,0,0,0,0,1,0,1,1,0,1,0], .bm1536),
    ([0,0,0,0,0,0,1,0,1,1,0,1,1], .bm1600), ([0,0,0,0,0,0,1,1,0,0,1,0,0], .bm1664),
    ([0,0,0,0,0,0,1,1,0,0,1,0,1], .bm1728), ([0,0,0,0,0,0,0,1,0,0,0], .xm1792), ([0,0,0,0,0,0,0,1,1,0,0], .xm1856),
    ([0,0,0,0,0,0,0,1,1,0,1], .xm1920), ([0,0,0,0,0,0,0,1,0,0,1,0], .xm1984), ([0,0,0,0,0,0,0,1,0,0,1,1], .xm2048),
    ([0,0,0,0,0,0,0,1,0,1,0,0], .xm2112), ([0,0,0,0,0,0,0,1,0,1,0,1], .xm2176), ([0,0,0,0,0,0,0,1,0,1,1,0], .xm2240),
    ([0,0,0,0,0,0,0,1,0,1,1,1], .xm2304), ([0,0,0,0,0,0,0,1,1,1,0,0], .xm2368), ([0,0,0,0,0,0,0,1,1,1,0,1], .xm2432),
    ([0,0,0,0,0,0,0,1,1,1,1,0], .xm2496), ([0,0,0,0,0,0,0,1,1,1,1,1], .xm2560)] := by
  decide +kernel

/-- 30_encoding R97, 10_state R29: the commands, bits 31:3 ignored. -/
theorem test_decode_commands :
    decode (.hostWrite 0x08 1) = .instr .init ∧ decode (.hostWrite 0x08 2) = .instr .row ∧
    decode (.hostWrite 0x08 3) = .instr .eofbCmd ∧ decode (.hostWrite 0x08 0x104) = .instr .clear ∧
    decode (.hostWrite 0x08 7) = .access .reservedCommand := by decide

/-- 30_encoding R98, 10_state R29: register writes and reads. -/
theorem test_decode_registers :
    decode (.hostWrite 0x00 0xFFFFFA3F) = .instr (.wrWidth 0xA3F) ∧
    decode (.hostWrite 0x04 0xFE) = .instr (.wrCtrl false) ∧
    decode (.hostWrite 0x10 0x101) = .instr (.pix .black) ∧
    decode (.hostRead 0x0C) = .instr .rdStatus ∧ decode (.hostRead 0x14) = .instr .rdLoadcnt ∧
    decode (.hostWrite 0x0C 5) = .access .ignoredWrite ∧ decode (.hostRead 0x18) = .access .readZero := by decide

/-- 30_encoding R105, R107: the operations without bits of their own. -/
theorem test_decode_bitless :
    decode (.sinkOp .align) = .instr .align ∧ decode (.sinkOp .final) = .instr .final ∧
    decode (.internal .rowenc) = .instr .rowenc ∧ decode (.internal (.run 200 .white)) = .instr (.run 200 .white) ∧
    decode (.internal (.scan .ref 8 (BitVec.ofInt 13 (-1)))) = .instr (.scan .ref 8 (BitVec.ofInt 13 (-1))) ∧
    decode (.internal (.emit 8)) = .instr (.emit 8) ∧ decode (.internal (.lookupMode 0)) = .instr (.lookupMode 0) ∧
    decode (.internal (.lookupTerm .black 63)) = .instr (.lookupTerm .black 63) ∧
    decode (.internal (.lookupMakeup .white 40)) = .instr (.lookupMakeup .white 40) := by decide

/-- 30_encoding R103: a lone end-of-line word is none of the block's code words. -/
theorem test_decode_rejects_end_of_line :
    decode (.code .mode (bitsOf 12 1)) = .reject .unknownCodeWord := by decide

/-! ### States the tests use -/

/-- A line of pixels. -/
def line (pixels : List Colour) : Line := ⟨7, pixels.zipIdx.map fun p => (p.2, p.1)⟩

/-- `...##...` (42_mode_selector R150). -/
def exampleLine : Line := line [.white, .white, .white, .black, .black, .white, .white, .white]

/-- An open page of width 8 with a loaded line, no reference yet, and a sink that accepts the next 60 transactions. -/
def loaded (cur : Line) : State :=
  { State.reset with phase := .page, width := 8, loadcnt := 8, cur := cur, sinkAnswers := List.replicate 60 .ok }

/-- Between pages, nothing loaded. -/
def ready (answers : List SinkAnswer) : State := { State.reset with sinkAnswers := answers }

/-- The codes a step sent, where it came to a next state. -/
def codesOf (o : Host.Outcome State Fault Refusal) : Option (List SinkTx) :=
  match o with
  | .next t => some (t.sinkLog.map SinkEvent.tx)
  | _ => none

/-! ### The spec's worked examples -/

/-- 41_scanner R141: the four scans of `...##...`. -/
theorem test_scan_examples :
    scanLine .cur 8 (-1) (loaded exampleLine) = .ok 3 ∧ scanLine .cur 8 3 (loaded exampleLine) = .ok 5 ∧
    scanLine .cur 8 5 (loaded exampleLine) = .ok 8 ∧ scanLine .cur 8 8 (loaded exampleLine) = .ok 8 := by decide

/-- 42_mode_selector R150: the first row `...##...` is H WT3 BT2 V0. -/
theorem test_rowenc_example :
    codesOf (exec .rowenc (loaded exampleLine)) =
      some [.writeCode ⟨1, 3⟩, .writeCode ⟨8, 4⟩, .writeCode ⟨3, 2⟩, .writeCode ⟨1, 1⟩] := by decide +kernel

/-- 42_mode_selector R154: `........` over `..##....` is P V0. -/
theorem test_rowenc_pass :
    codesOf (exec .rowenc { loaded (line (List.replicate 8 .white)) with
                            refv := true,
                            ref := line [.white, .white, .black, .black, .white, .white, .white, .white] }) =
      some [.writeCode ⟨1, 4⟩, .writeCode ⟨1, 1⟩] := by decide +kernel

/-- 42_mode_selector R163: `.##.....` over `....##..` is VL3 VL3 P V0. -/
theorem test_rowenc_left :
    codesOf (exec .rowenc { loaded (line [.white, .black, .black, .white, .white, .white, .white, .white]) with
                            refv := true,
                            ref := line [.white, .white, .white, .white, .black, .black, .white, .white] }) =
      some [.writeCode ⟨2, 7⟩, .writeCode ⟨2, 7⟩, .writeCode ⟨1, 4⟩, .writeCode ⟨1, 1⟩] := by decide +kernel

/-- 43_run_length_emitter R182: RUN(1792, BLACK) is XM1792 BT0. -/
theorem test_run_extended :
    codesOf (exec (.run 1792 .black) (loaded exampleLine)) =
      some [.writeCode ⟨0x8, 11⟩, .writeCode ⟨0x37, 10⟩] := by decide +kernel

/-- 43_run_length_emitter R183: RUN(64, WHITE) is WM64 WT0, the terminating code not skipped. -/
theorem test_run_multiple_of_64 :
    codesOf (exec (.run 64 .white) (loaded exampleLine)) =
      some [.writeCode ⟨0x1B, 5⟩, .writeCode ⟨0x35, 8⟩] := by decide +kernel

/-- 44_page_sequencer R194: after the ROW of `...##...` the reference is that line and LOADCNT is 0. -/
theorem test_row_example :
    (match exec .row (loaded exampleLine) with
      | .next t => some (t.ref, t.refv, t.loadcnt, t.phase)
      | _ => none) = some (exampleLine, true, 0, .page) := by decide +kernel

/-- 44_page_sequencer R196: EOFB directly after INIT gives the bytes 00 10 01. -/
theorem test_empty_page_output :
    (match exec .eofbCmd { ready [.ok, .ok] with phase := .page, width := 8 } with
      | .next t => t.output
      | _ => none) = some [0x00, 0x10, 0x01] := by decide +kernel

/-- 42_mode_selector R156, R250: the horizontal prefix can fail. -/
theorem test_horizontal_prefix_fails :
    (match exec .h { loaded exampleLine with sinkAnswers := [.fail] } with
      | .next t => some (t.phase, t.errcode, t.a0, t.sinkLog.length)
      | _ => none) = some (.error, .sinkWriteFailure, BitVec.ofInt 13 (-1), 1) := by decide +kernel

/-- 44_page_sequencer R193: the ninth pixel of a row of 8 is MalformedInput. -/
theorem test_pix_too_many :
    exec (.pix .black) (loaded exampleLine) = .next ((loaded exampleLine).raise .malformedInput) := by rfl

/-- 70_reset R244: attaching a sink empties the stream and nothing else. -/
theorem test_attach_sink (s : State) (h : s.inbox = [.attachSink]) :
    step s = .next { s with inbox := [], sinkLog := [] } := by simp [step, h, decode, hostAccess]

/-- 70_reset R240: a reset inside ROW after two codes leaves H WT3 on the sink and the block reset, though the sink
then falls silent. -/
theorem test_reset_inside_row :
    (match step { loaded exampleLine with inbox := [.resetDuring 0x08 2 2], sinkAnswers := [.ok, .ok, .silent] } with
      | .next t => some (t.sinkLog.map SinkEvent.tx, t.phase, t.width, t.sinkAnswers)
      | _ => none) = some ([.writeCode ⟨1, 3⟩, .writeCode ⟨8, 4⟩], .idle, 0, [.silent]) := by decide +kernel

/-- The table word 00110101 is WT0 and is what the next step runs. -/
theorem test_fetch_word :
    decodeTableWord 8 0x35 = some .wt0 ∧
      codesOf (step ((loaded exampleLine).withFetchWord 8 0x35)) = some [.writeCode ⟨0x35, 8⟩] := by decide +kernel

/-! ### Witnesses: for each statement with hypotheses, a state and operands that meet them together -/

/-- A request waits that decodes to an operation, one to an access, one to nothing. -/
theorem witness_step :
    (ready []).inbox = [] ∧ decode (encode .init) = .instr .init ∧ decode .attachSink = .access .attachSink ∧
    decode (.code .mode []) = .reject .unknownCodeWord ∧ decodeTableWord 8 0x35 = some .wt0 := by decide

/-- ResetLeavesTheStatedValues: a reset between commands and one inside a command. -/
theorem witness_reset : isReset .hardwareReset ∧ isReset (.resetDuring 0x08 2 1) :=
  ⟨.inl rfl, .inr ⟨0x08, 2, 1, rfl⟩⟩

/-- ResetLeavesTheStatedValues, inside ROW: after none of its transactions, and after two with a third that would never
be answered; the same write without the reset, on a script with the same two answers. -/
theorem witness_reset_inside_row :
    let s (n : Nat) := { loaded exampleLine with inbox := [.resetDuring 0x08 2 n], sinkAnswers := [.ok, .ok, .silent] }
    (s 2).Inv ∧ .silent ∉ (s 2).sinkAnswers.take 2 ∧ 2 ≤ (s 2).sinkAnswers.length ∧
      (∃ t, step (s 0) = .next t) ∧ (∃ t, step (s 2) = .next t) ∧
      ∃ u, step { s 2 with inbox := [.hostWrite 0x08 2], sinkAnswers := (s 2).sinkAnswers.take 2 ++ [.fail] } = .next u :=
  ⟨⟨by decide, by decide, by decide, by decide, by decide, by decide⟩, by decide, by decide, ⟨_, rfl⟩, ⟨_, rfl⟩, _, rfl⟩

/-- EveryStepKeepsTheInvariant: reset satisfies the invariant and its step is a next state. -/
theorem witness_invariant_step : State.reset.Inv ∧ ∃ t, step State.reset = .next t :=
  ⟨⟨by decide, by decide, by decide, by decide, by decide, by decide⟩, _, rfl⟩

/-- HostAccessesAlwaysComplete: reset with a write and a read waiting. -/
theorem witness_host_access :
    State.Inv { ready [.ok] with inbox := [.hostWrite 0x00 8] } ∧ (ready [.ok]).answering :=
  ⟨⟨by decide, by decide, by decide, by decide, by decide, by decide⟩, by unfold State.answering; decide⟩

/-- EveryWellFormedInstructionRoundTrips, at the boundary of each checked operand. -/
theorem witness_well_formed :
    (Instr.emit 8).wellFormed = true ∧ (Instr.lookupMode 8).wellFormed = true ∧
    (Instr.lookupMakeup .white 1).wellFormed = true ∧ (Instr.lookupMakeup .black 40).wellFormed = true ∧
    (Instr.scan .ref 0 (BitVec.ofInt 13 (-1))).wellFormed = true := by decide

/-- DecodedCodeWordsAreTheirEncoding: the shared word at a black-run position. -/
theorem witness_decoded_word : decode (.code .black (bitsOf 11 8)) = .instr .xm1792 := by decide

/-- RegisterWritesTakeOnlyTheirBits: the read-only registers and a reserved offset, with such a write waiting. -/
theorem witness_ignored_offset :
    (0x0C : Word).toNat ∉ [0x00, 0x04, 0x08, 0x10] ∧ (0x14 : Word).toNat ∉ [0x00, 0x04, 0x08, 0x10] ∧
      (0x18 : Word).toNat ∉ [0x00, 0x04, 0x08, 0x10] ∧
      { ready [] with inbox := [.hostWrite 0x0C 1] }.inbox = [.hostWrite 0x0C 1] :=
  ⟨by decide, by decide, by decide, rfl⟩

/-- LookupsReturnTheCodeWords and ReservedRomAddressesAreRefused, at both ends of each table. -/
theorem witness_lookup_ranges :
    (8 : BitVec 6).toNat ≤ 8 ∧ 8 < (9 : BitVec 6).toNat ∧ 1 ≤ (1 : BitVec 6).toNat ∧ (40 : BitVec 6).toNat ≤ 40 ∧
    40 < (41 : BitVec 6).toNat ∧ (ready []).phase ≠ .error := by decide

/-- ScanFindsTheNextChange, from the virtual start, from a pixel and from the end; and a start below the virtual one. -/
theorem witness_scan :
    -1 ≤ (BitVec.ofInt 13 (-1)).toInt ∧ (8 : BitVec 12).toNat ≤ (loaded exampleLine).w ∧
    (loaded exampleLine).w ≤ Config.wMax ∧ (0 : BitVec 13).toInt < (8 : BitVec 12).toNat ∧
    ((8 : BitVec 12).toNat : Int) ≤ (8 : BitVec 13).toInt ∧ (BitVec.ofInt 13 (-2)).toInt < -1 := by decide

/-- ReadsOutsideTheContractAreRefused: the first index past the line. -/
theorem witness_read_outside : (loaded exampleLine).w ≤ 8 := by decide

/-- The statements about one accepted transaction: the code words, EOFB, ALIGN, FINAL, EMIT, P and the vertical modes. -/
theorem witness_accepts_one : (ready [.ok]).phase ≠ .error ∧ (ready [.ok]).acceptsNext 1 := ⟨by decide, rfl⟩

/-- EmittedCodeIsTheEncodedWord: the operation comes to a next state. -/
theorem witness_emitted :
    sendsFirst .wt0 (.writeCode ⟨0x35, 8⟩) ∧ (ready [.ok]).phase ≠ .error ∧ (ready [.ok]).acceptsNext 1 ∧
      ∃ t, exec .wt0 (ready [.ok]) = .next t :=
  ⟨.inl ⟨.white, bitsOf 8 0x35, rfl, rfl⟩, by decide, rfl, _, rfl⟩

/-- EveryEmissionSitePropagatesFailure and SilentSinkStopsTheBlock. -/
theorem witness_refusing_sink :
    sendsFirst .h (.writeCode ⟨1, 3⟩) ∧ (ready [.fail]).phase ≠ .error ∧ (ready [.fail]).failsNext ∧
      (ready [.silent]).sinkAnswers.head? = some .silent :=
  ⟨.inl ⟨.mode, bitsOf 3 1, rfl, rfl⟩, by decide, rfl, rfl⟩

/-- EveryEmissionSitePropagatesFailure and SilentSinkStopsTheBlock, for a first and a last transaction: the mode code and
V0 of a row, the two codes of a run, the code of EMIT, and finalize. -/
theorem witness_each_transaction :
    (∃ t, exec .row (loaded exampleLine) = .next t ∧ (loaded exampleLine).txCount + 3 < t.txCount ∧
      3 ≤ (loaded exampleLine).sinkAnswers.length) ∧
    (∃ t, exec (.run 2623 .black) (ready [.ok, .ok]) = .next t ∧ (ready [.ok, .ok]).txCount + 1 < t.txCount) ∧
    (∃ t, exec (.emit 8) (ready [.ok]) = .next t ∧ (ready [.ok]).txCount + 0 < t.txCount) ∧
    ∃ t, exec .eofbCmd { ready [.ok, .ok] with phase := .page } = .next t ∧ 0 + 1 < t.txCount :=
  ⟨⟨_, rfl, by decide, by decide⟩, ⟨_, rfl, by decide⟩, ⟨_, rfl, by decide⟩, _, rfl, by decide⟩

/-- RunSendsMakeupThenTerminating, at 2623, with two codes; RunBeyondTheTablesRaises, at 2624. -/
theorem witness_run :
    (2623 : BitVec 12).toNat ≤ 2623 ∧ 2623 < (2624 : BitVec 12).toNat ∧ (ready [.ok, .ok]).phase ≠ .error ∧
      (ready [.ok, .ok]).acceptsNext (runCodes (2623 : BitVec 12).toNat .black).length :=
  ⟨by decide, by decide, by decide, rfl⟩

/-- HorizontalModeSendsTwoRuns, from the virtual start, with A1 = 3. -/
theorem witness_horizontal :
    let s := { loaded exampleLine with a1 := 3 }
    s.phase ≠ .error ∧ s.w ≤ Config.wMax ∧ s.a1.toNat ≤ s.w ∧ -1 ≤ s.a0.toInt ∧ s.a0.toInt ≤ s.a1.toNat ∧
      scanLine .cur s.w s.a1.toNat s = .ok 5 ∧ s.acceptsNext 5 :=
  ⟨by decide, by decide, by decide, by decide, by decide, by decide, rfl⟩

/-- HorizontalModeRefusesNegativeRuns: A1 left of A0. -/
theorem witness_negative_run :
    let s := { loaded exampleLine with a0 := 5, a1 := 3 }
    s.phase ≠ .error ∧ s.acceptsNext 1 ∧ s.w ≤ Config.wMax ∧ -1 ≤ s.a0.toInt ∧ (s.a1.toNat : Int) < s.a0.toInt :=
  ⟨by decide, rfl, by decide, by decide, by decide⟩

/-- VerticalDistanceSelectsTheSymbol, at the distance 3. -/
theorem witness_vertical :
    let s := { loaded exampleLine with a1 := 5, b1 := 2, b2 := 8 }
    s.acceptsNext 1 ∧ s.a1.toNat ≤ s.b2.toNat ∧ (s.a1.toNat : Int) - s.b1.toNat = 3 :=
  ⟨rfl, by decide, by decide⟩

/-- B1IsTheFirstOppositeChange, with a reference. -/
theorem witness_detection :
    let s := { loaded exampleLine with refv := true, ref := exampleLine }
    s.refv = true ∧ -1 ≤ s.a0.toInt ∧ s.a0.toInt < s.w ∧ s.w ≤ Config.wMax ∧ s.acceptsNext 5 :=
  ⟨rfl, by decide, by decide, by decide, rfl⟩

/-- OneIterationCodesByThePriorityRule, one state for each branch, all with A1 = 3: pass (REF changes at 1 and 2),
vertical (the line is its own reference) and horizontal (no reference). -/
theorem witness_iteration_branches :
    let pass := { loaded exampleLine with
      refv := true, ref := line [.white, .black, .white, .white, .white, .white, .white, .white] }
    let vertical := { loaded exampleLine with refv := true, ref := exampleLine }
    let horizontal := loaded exampleLine
    (∀ s ∈ [pass, vertical, horizontal], -1 ≤ s.a0.toInt ∧ s.a0.toInt < s.w ∧ s.w ≤ Config.wMax ∧
      scanLine .cur s.w s.a0.toInt s = .ok 3) ∧
      pass.acceptsNext 5 ∧ vertical.acceptsNext 5 ∧ horizontal.acceptsNext 5 ∧
      (∃ d, detectB pass = .run d false ∧ d.b2.toNat < 3) ∧
      (∃ d, detectB vertical = .run d false ∧ ¬ d.b2.toNat < 3 ∧ d.b1.toNat = 3) ∧
      ∃ d, detectB horizontal = .run d false ∧ ¬ d.b2.toNat < 3 ∧ (3 : Int) - d.b1.toNat < -3 :=
  ⟨by decide, rfl, rfl, rfl, ⟨_, rfl, by decide⟩, ⟨_, rfl, by decide, by decide⟩, _, rfl, by decide, by decide⟩

/-- RowLoopInvariant: the first iteration of a row raises no fault. -/
theorem witness_row_loop :
    (loaded exampleLine).onLine ∧ (loaded exampleLine).a0.toInt < (loaded exampleLine).w ∧
      ∃ t, rowIteration (loaded exampleLine) = .run t false :=
  ⟨.inl (by decide), by decide, _, rfl⟩

/-- RowencEndsAtTheEndOfTheLine, RowencFaultsOnlyByTheSink, FirstRowNeverTakesPassMode. -/
theorem witness_rowenc :
    let s := loaded exampleLine
    s.phase ≠ .error ∧ s.w ≤ Config.wMax ∧ s.acceptsNext (5 * (s.w + 1)) ∧ s.answering ∧ s.refv = false ∧
      -1 ≤ s.a0.toInt :=
  ⟨by decide, by decide, rfl, by unfold State.answering; decide, rfl, by decide⟩

/-- AllBlackFirstRow. -/
theorem witness_all_black :
    let s := loaded (line (List.replicate 8 .black))
    s.phase ≠ .error ∧ s.refv = false ∧ (∀ i < s.w, s.cur.pixel i = .black) ∧ 1 ≤ s.w ∧ s.w ≤ 2623 ∧
      s.acceptsNext 5 :=
  ⟨by decide, rfl, by decide, by decide, by decide, rfl⟩

/-- AllWhiteRowIsOneV0 and AllWhiteReferenceEqualsNoReference. -/
theorem witness_all_white :
    let s := { loaded (line (List.replicate 8 .white)) with refv := true, ref := line (List.replicate 8 .white) }
    s.phase ≠ .error ∧ (∀ i < s.w, s.cur.pixel i = .white) ∧ (∀ i < s.w, s.ref.pixel i = .white) ∧ s.refv = true ∧
      1 ≤ s.w ∧ s.w ≤ 2623 ∧ s.acceptsNext 1 ∧ s.answering :=
  ⟨by decide, by decide, by decide, rfl, by decide, by decide, rfl, by unfold State.answering; decide⟩

/-- RowencIgnoresStaleRegisters: two different states that agree on what ROWENC reads. -/
theorem witness_stale :
    let s := loaded exampleLine
    let u := { s with a0 := 5, a1 := 7, q := 9, loadcnt := 3 }
    s.phase ≠ .error ∧ u.width = s.width ∧ u.refv = s.refv ∧ u.cur = s.cur ∧ u.ref = s.ref ∧ u.phase = s.phase ∧
      u.errcode = s.errcode ∧ u.sinkAnswers = s.sinkAnswers ∧ u.txCount = s.txCount ∧
      (∃ t, exec .rowenc s = .next t) ∧ u ≠ s :=
  ⟨by decide, rfl, rfl, rfl, rfl, rfl, rfl, rfl, rfl, ⟨_, rfl⟩, by decide⟩

/-- The phases of the sequencer's statements. -/
theorem witness_phases :
    (ready []).phase = .idle ∧ { ready [] with phase := .page }.phase = .page ∧
      { ready [] with phase := .done }.phase = .done ∧ ((ready []).raise .configError).phase = .error := by decide

/-- InitOpensThePage: the widths 0, 1, 2623 and 2624. -/
theorem witness_widths :
    (ready []).w = 0 ∧ { ready [] with width := 1 }.w = 1 ∧ { ready [] with width := 2623 }.w = 2623 ∧
      2623 < { ready [] with width := 2624 }.w := by decide

/-- PixStoresOnePixel and PushedPixelsMakeUpTheLine: room for the last pixel, and none. -/
theorem witness_pix :
    let s := { loaded exampleLine with loadcnt := 7, inbox := [encode (.pix .black)] }
    s.phase = .page ∧ s.loadcnt.toNat < s.w ∧ s.w ≤ 2623 ∧ (loaded exampleLine).w ≤ (loaded exampleLine).loadcnt.toNat ∧
      s.loadcnt.toNat + [Colour.black].length ≤ s.w ∧
      s.inbox = [Colour.black].map (fun c => encode (.pix c)) ++ [] := by decide

/-- MalformedRowsSendNothing: a row of 7 pixels in a page of width 8. -/
theorem witness_partial_row :
    let s := { loaded exampleLine with loadcnt := 7 }
    s.phase = .page ∧ s.loadcnt.toNat ≠ s.w ∧ s.loadcnt.toNat ≠ 0 := by decide

/-- RowEncodesAndAdoptsTheLine. -/
theorem witness_row :
    let s := loaded exampleLine
    s.phase = .page ∧ s.loadcnt.toNat = s.w ∧ s.w ≤ Config.wMax ∧ s.acceptsNext (5 * (s.w + 1) + 1) :=
  ⟨rfl, by decide, by decide, rfl⟩

/-- FailedRowKeepsTheReference: the first code is refused; or, with BA = 1, the alignment after the four codes is. -/
theorem witness_failed_row :
    let s := { loaded exampleLine with sinkAnswers := [.fail] }
    let u := { loaded exampleLine with ba := true, sinkAnswers := [.ok, .ok, .ok, .ok, .fail] }
    s.phase = .page ∧ s.loadcnt.toNat = s.w ∧ (∃ t, exec .row s = .next t ∧ t.phase = .error ∧ t.refv = false) ∧
      u.phase = .page ∧ u.loadcnt.toNat = u.w ∧ ∃ t, exec .row u = .next t ∧ t.phase = .error ∧ t.refv = true :=
  ⟨rfl, by decide, ⟨_, rfl, rfl, rfl⟩, rfl, by decide, _, rfl, rfl, rfl⟩

/-- EofbClosesThePage and FinishedPageEndsWithTheTerminator, for both orders of answers. -/
theorem witness_page_end :
    let s := { ready [.ok, .ok] with phase := .page, width := 8 }
    s.phase = .page ∧ s.loadcnt = 0 ∧ s.acceptsNext 2 ∧ s.refSink.closed = false ∧ (ready [.fail]).failsNext ∧
      (ready [.ok, .fail]).sinkAnswers.take 2 = [.ok, .fail] :=
  ⟨rfl, rfl, rfl, rfl, rfl, rfl⟩

/-- AlignmentReachesAByteBoundary: a row with BA = 1 that succeeds. -/
theorem witness_alignment :
    let s := { loaded exampleLine with ba := true }
    s.phase ≠ .error ∧ s.acceptsNext 1 ∧ s.refSink.closed = false ∧ s.phase = .page ∧ s.ba = true ∧
      ∃ t, exec .row s = .next t ∧ t.phase = .page :=
  ⟨by decide, rfl, rfl, rfl, rfl, _, rfl, rfl⟩

/-- ReadsReturnTheRegisters: an offset of each kind waits. -/
theorem witness_reads :
    { ready [] with inbox := [.hostRead 0x10] }.inbox = [.hostRead 0x10] ∧
      (0x10 : Word) ∉ ([0x00, 0x04, 0x0C, 0x14] : List Word) := by decide

/-- IllegalOperationsRaiseProtocolError and ErrorIgnoresEveryWriteButClear: a reserved command, a write in ERROR. -/
theorem witness_illegal :
    (13 : Word).toNat % 8 ∈ [0, 5, 6, 7] ∧ (ready []).phase ≠ .error ∧
      { (ready []).raise .configError with inbox := [.hostWrite 0x08 2] }.phase = .error ∧
      ¬ ((0x08 : Word) = 0x08 ∧ (2 : Word).toNat % 8 = 4) := by decide

/-- The statements about every step: a step that changes the phase, and is not the attachment of a sink. -/
theorem witness_step_changes_phase :
    let s := { ready [] with width := 8, inbox := [encode .init] }
    s.inbox = [encode .init] ∧ decode (encode .init) ≠ .access .attachSink ∧
      ∃ t, step s = .next t ∧ t.phase ≠ s.phase :=
  ⟨rfl, by decide, _, rfl, by decide⟩

/-- WorkingRegistersAndFlagsChangeOnlyAsStated, with steps that change what a clause names: P moves A0, RUN writes Q, ROW
sets REFV and clears LOADCNT, a seventh pixel counts, and INIT without a width takes ConfigError. -/
theorem witness_registers_change :
    (∃ t, step { ready [.ok] with b2 := 5, inbox := [encode .p] } = .next t ∧ t.a0 ≠ (ready []).a0) ∧
    (∃ t, step { ready [.ok, .ok] with inbox := [encode (.run 128 .white)] } = .next t ∧ t.q ≠ (ready []).q) ∧
    (∃ t, step { loaded exampleLine with inbox := [encode .row] } = .next t ∧ t.refv = true ∧ t.loadcnt = 0) ∧
    (∃ t, step { loaded exampleLine with loadcnt := 6, inbox := [encode (.pix .black)] } = .next t ∧ t.loadcnt = 7) ∧
    ∃ t, step { ready [] with inbox := [encode .init] } = .next t ∧ t.errcode = .configError :=
  ⟨⟨_, rfl, by decide⟩, ⟨_, rfl, by decide⟩, ⟨_, rfl, rfl, rfl⟩, ⟨_, rfl, by decide⟩, _, rfl, rfl⟩

end Sys2Proof.Tests
end

section
/-! How a step serves the first request, one equation per kind of decoding (00_scope R6), and the statement of the
scope family that rests on them. -/

namespace Sys2Proof.Machine

open Sys2Proof

theorem step_of_decode_instr {s : State} {req : Request} {rest : List Request} {i : Instr}
    (hin : s.inbox = req :: rest) (hd : decode req = .instr i) : step s = exec i { s with inbox := rest } := by
  simp only [step, hin, hd]

theorem step_of_decode_access {s : State} {req : Request} {rest : List Request} {a : HostAccess}
    (hin : s.inbox = req :: rest) (hd : decode req = .access a) : step s = hostAccess a { s with inbox := rest } := by
  simp only [step, hin, hd]

theorem step_of_decode_reject {s : State} {req : Request} {rest : List Request} {why : Reject}
    (hin : s.inbox = req :: rest) (hd : decode req = .reject why) : step s = .refused (.undecodable why) := by
  simp only [step, hin, hd]

theorem decodeTableWord_eq_some_iff {nbits w : Nat} {i : Instr} :
    decodeTableWord nbits w = some i ↔ decode (requestOfTableWord nbits w) = .instr i := by
  unfold decodeTableWord
  cases decode (requestOfTableWord nbits w) with
  | instr j => simp
  | access a => simp
  | reject why => simp

/-- Serving the table word takes its request off the inbox again, so `exec` runs on the state as it was. -/
theorem step_withFetchWord {s : State} {nbits w : Nat} {i : Instr} (hd : decodeTableWord nbits w = some i) :
    step (s.withFetchWord nbits w) = exec i s :=
  step_of_decode_instr (s := s.withFetchWord nbits w) rfl (decodeTableWord_eq_some_iff.mp hd)

/-- Settles O1: the three equations of `step`, and the first of them for the request of a table word. -/
theorem stepRunsTheDecodedRequest : Obligations.StepRunsTheDecodedRequest :=
  ⟨fun _ _ _ hin => ⟨fun _ => step_of_decode_instr hin, fun _ => step_of_decode_access hin,
      fun _ => step_of_decode_reject hin⟩,
    fun _ _ _ _ => step_withFetchWord⟩

end Sys2Proof.Machine
end

section
/-! What a step does to the invariant of the machine: one inversion lemma for the host accesses without a table row,
one lemma per operation on the state, and the statements on reset and on every step. -/

namespace Sys2Proof.Machine

open Sys2Proof

/-! ### The host accesses without a row -/

/-- Everything a host access without a row can do (log entries 9, 16, 17): it hands out a value, is ignored, is a
ProtocolError, resets the block with some transactions kept by the sink, or attaches a fresh sink. -/
inductive AccessEffect : HostAccess → State → State → Prop
  | gives {a s} (v : Result) : AccessEffect a s (s.give v)
  | ignored {a s} : AccessEffect a s s
  | reserved {s} (hp : s.phase ≠ .error) : AccessEffect .reservedCommand s (s.raise .protocolError)
  | reset {a s} (sent : List SinkEvent) (ha : a = .hardwareReset ∨ ∃ offset data n, a = .resetDuring offset data n) :
      AccessEffect a s (s.abandoned sent)
  | attached {s : State} : AccessEffect .attachSink s { s with sinkLog := [] }

/-- A reset between commands is one inside a command that has sent nothing. -/
theorem State.abandoned_nil (s : State) : s.abandoned [] = s.hardwareReset := by
  simp [State.abandoned]

theorem hostAccess_cases {a : HostAccess} {s t : State} (h : hostAccess a s = .next t) : AccessEffect a s t := by
  cases a with
  | readWidth => cases h; exact .gives _
  | readCtrl => cases h; exact .gives _
  | readZero => cases h; exact .gives _
  | ignoredWrite => cases h; exact .ignored
  | reservedCommand =>
    simp only [hostAccess] at h
    split at h
    · cases h; exact .ignored
    · cases h; exact .reserved ‹_›
  | hardwareReset =>
    cases h
    rw [← State.abandoned_nil]
    exact .reset [] (.inl rfl)
  | resetDuring offset data n =>
    rcases resetDuringWrite_cases h with rfl | ⟨i, u, _, _, rfl⟩
    · rw [← State.abandoned_nil]
      exact .reset [] (.inr ⟨_, _, _, rfl⟩)
    · exact .reset _ (.inr ⟨_, _, _, rfl⟩)
  | attachSink => cases h; exact .attached

/-! ### The invariant under the operations on the state -/

/-- The invariant reads seven fields of the state. -/
theorem State.Inv.congr {s t : State} (h : s.Inv) (errcode : t.errcode = s.errcode) (phase : t.phase = s.phase)
    (width : t.width = s.width) (loadcnt : t.loadcnt = s.loadcnt) (a0 : t.a0 = s.a0) (cur : t.cur = s.cur)
    (ref : t.ref = s.ref) : t.Inv := by
  have w : t.w = s.w := congrArg BitVec.toNat width
  exact ⟨by rw [errcode, phase]; exact h.errcode, by rw [phase, w]; exact h.pageWidth,
    by rw [phase, loadcnt, w]; exact h.pageLoaded, by rw [a0]; exact h.position, by rw [cur]; exact h.cur,
    by rw [ref]; exact h.ref⟩

theorem State.Inv.record {s : State} (h : s.Inv) (tx : SinkTx) (accepted : Bool) : (s.record tx accepted).Inv :=
  h.congr rfl rfl rfl rfl rfl rfl rfl

/-- Taking a fault keeps the invariant: no page is open afterwards (60_exceptions R216). -/
theorem State.Inv.raise {s : State} (h : s.Inv) {code : ErrCode} (hc : code ≠ .none) : (s.raise code).Inv :=
  ⟨by simp [hc], by simp, by simp, h.position, h.cur, h.ref⟩

theorem State.Inv.sinkRefused {s : State} (h : s.Inv) (tx : SinkTx) : (s.sinkRefused tx).Inv :=
  (h.record tx false).raise (by simp)

/-- Outside ERROR the invariant says that no fault is recorded. -/
theorem State.Inv.no_fault {s : State} (h : s.Inv) (hp : s.phase ≠ .error) : s.errcode = .none :=
  not_not.1 fun he => hp (h.errcode.1 he)

theorem Phase.ne_error_of_idle_or_done {p : Phase} (h : p = .idle ∨ p = .done) : p ≠ .error := by
  rcases h with rfl | rfl <;> simp

/-- With no page open the width, LOADCNT and CTRL are free: the clauses about an open page say nothing. -/
theorem State.Inv.closed {s t : State} (h : s.Inv) (hp : t.phase = .idle ∨ t.phase = .done) (he : t.errcode = .none)
    (a0 : t.a0 = s.a0) (cur : t.cur = s.cur) (ref : t.ref = s.ref) : t.Inv := by
  have notPage : t.phase ≠ .page := by rcases hp with hp | hp <;> simp [hp]
  exact ⟨by simp [he, Phase.ne_error_of_idle_or_done hp], fun hp => absurd hp notPage, fun hp => absurd hp notPage,
    by rw [a0]; exact h.position, by rw [cur]; exact h.cur, by rw [ref]; exact h.ref⟩

/-- Coding a line keeps the invariant, whether it ends in a fault or not. -/
theorem Coded.inv {s t : State} {b : Bool} (h : Coded s t b) (hs : s.Inv) : t.Inv := by
  have cur : t.cur.wf = true := by rw [h.frame.cur]; exact hs.cur
  have ref : t.ref.wf = true := by rw [h.frame.ref]; exact hs.ref
  have w : t.w = s.w := congrArg BitVec.toNat h.frame.width
  cases b with
  | false =>
    obtain ⟨phase, errcode⟩ := h.clean rfl
    exact ⟨by rw [errcode, phase]; exact hs.errcode, by rw [phase, w]; exact hs.pageWidth,
      by rw [phase, h.frame.loadcnt, w]; exact hs.pageLoaded, h.position hs.position, cur, ref⟩
  | true =>
    obtain ⟨phase, errcode⟩ := h.raised rfl
    exact ⟨by rcases errcode with e | e <;> simp [e, phase], by simp [phase], by simp [phase], h.position hs.position,
      cur, ref⟩

theorem alignIfAsked_coded {s t : State} {b : Bool} (h : alignIfAsked s = .run t b) : Coded s t b := by
  rcases alignIfAsked_eq_run h with ⟨_, h⟩ | ⟨_, rfl, rfl⟩
  · exact sinkTransact_coded h
  · exact .refl _

/-- The reference update empties the line buffer it has handed over (44 R194). -/
theorem State.Inv.adoptRow {s : State} (h : s.Inv) : s.adoptRow.Inv :=
  ⟨h.errcode, h.pageWidth, fun _ => Nat.zero_le _, h.position, (State.adoptRow_lines_wf h.cur).1,
    (State.adoptRow_lines_wf h.cur).2⟩

theorem State.Inv.cleared {s : State} (h : s.Inv) : s.cleared.Inv :=
  ⟨by simp, by simp, by simp, h.position, rfl, rfl⟩

/-- A reset state has the invariant whatever was before it. -/
theorem State.abandoned_inv (s : State) (sent : List SinkEvent) : (s.abandoned sent).Inv :=
  ⟨by simp, by simp, by simp, by rw [State.abandoned_a0]; decide, rfl, rfl⟩

/-- INIT on a legal width opens a page with nothing loaded (44 R192). -/
theorem State.Inv.opened {s : State} (h : s.Inv) (hp : s.phase ≠ .error) (h1 : 1 ≤ s.w) (h2 : s.w ≤ Config.wMax) :
    ({ s with refv := false, loadcnt := 0, phase := .page } : State).forgetCur.forgetRef.Inv :=
  ⟨by simp [h.no_fault hp], fun _ => ⟨h1, h2⟩, fun _ => Nat.zero_le _, h.position, rfl, rfl⟩

/-- The LOADCNT of a line with room left counts one more without wrapping. -/
theorem State.loadcnt_succ_toNat {s : State} (h : s.loadcnt.toNat < s.w) :
    (s.loadcnt + 1).toNat = s.loadcnt.toNat + 1 := by
  have : s.w < 2 ^ 12 := s.width.isLt
  rw [BitVec.toNat_add_of_lt (by simp; omega)]
  rfl

/-- A pixel pushed where there is room keeps the invariant (44 R193). -/
theorem State.Inv.pushed {s : State} (h : s.Inv) (c : Colour) (h1 : s.loadcnt.toNat < s.w)
    (h2 : s.loadcnt.toNat < Config.wMax) :
    ({ s with cur := s.cur.write s.loadcnt.toNat c, loadcnt := s.loadcnt + 1 } : State).Inv := by
  refine ⟨h.errcode, h.pageWidth, fun _ => ?_, h.position, Line.write_wf c h.cur h2, h.ref⟩
  show (s.loadcnt + 1).toNat ≤ s.w
  rw [State.loadcnt_succ_toNat h1]
  exact h1

/-! ### The invariant under a step -/

/-- Every host write keeps the invariant. -/
theorem HostEffect.inv {i : Instr} {s t : State} (h : HostEffect i s t) (hs : s.Inv) : t.Inv := by
  cases h with
  | ignored _ => exact hs
  | raised _ he => exact hs.raise he
  | wrWidth w hp => exact hs.closed hp (hs.no_fault (Phase.ne_error_of_idle_or_done hp)) rfl rfl rfl
  | wrCtrl ba hp => exact hs.congr rfl rfl rfl rfl rfl rfl rfl
  | init hp h1 h2 => exact hs.opened (Phase.ne_error_of_idle_or_done hp) h1 h2
  | pix c _ h1 h2 => exact hs.pushed c h1 h2
  | rowFails _ _ h => exact (encodeRow_coded h).inv hs
  | row _ _ h ha => exact (alignIfAsked_coded ha).inv ((encodeRow_coded h).inv hs).adoptRow
  | eofbFails _ _ => exact hs.sinkRefused _
  | finalizeFails _ _ => exact (hs.record _ _).sinkRefused _
  | eofb hp _ => exact hs.closed (.inr rfl) (hs.no_fault (by simp [hp])) rfl rfl rfl
  | clear => exact hs.cleared

theorem AccessEffect.inv {a : HostAccess} {s t : State} (h : AccessEffect a s t) (hs : s.Inv) : t.Inv := by
  cases h with
  | gives v => exact hs.congr rfl rfl rfl rfl rfl rfl rfl
  | ignored => exact hs
  | reserved _ => exact hs.raise (by simp)
  | reset sent _ => exact s.abandoned_inv sent
  | attached => exact hs.congr rfl rfl rfl rfl rfl rfl rfl

theorem exec_inv {i : Instr} {s t : State} (h : exec i s = .next t) (hs : s.Inv) : t.Inv := by
  rcases exec_cases h with ⟨_, rfl⟩ | ⟨_, b, hc⟩ | ⟨v, rfl⟩ | hi
  · exact hs
  · exact hc.inv hs
  · exact hs.congr rfl rfl rfl rfl rfl rfl rfl
  · exact (hostOp_cases hi h).inv hs

/-- Settles O4: `exec_inv` for the operations, `AccessEffect.inv` for the accesses without a row. -/
theorem everyStepKeepsTheInvariant : Obligations.EveryStepKeepsTheInvariant := by
  intro s t hs h
  cases hin : s.inbox with
  | nil =>
    simp only [step, hin, Host.Outcome.next.injEq] at h
    exact h ▸ hs
  | cons req rest =>
    have served : ({ s with inbox := rest } : State).Inv := hs.congr rfl rfl rfl rfl rfl rfl rfl
    rcases step_cases hin h with ⟨i, _, he⟩ | ⟨a, _, ha⟩
    · exact exec_inv he served
    · exact (hostAccess_cases ha).inv served

/-- Settles O3: no fault, no page, the coding position before the line, and two buffers nothing was written to. -/
theorem invariantHoldsAtReset : Obligations.InvariantHoldsAtReset :=
  ⟨by simp [State.reset], by simp [State.reset], by simp [State.reset], by simp [State.reset],
    State.reset_lines_wf.1, State.reset_lines_wf.2⟩

end Sys2Proof.Machine
end

section
/-! The registers of the line encoder in three groups, and for every operation which of them it keeps: one lemma per
operation on the state (`Keeps`), one inversion lemma for `exec` (`RegisterEffect`), and the statement that the
registers and flags change only as stated. -/

namespace Sys2Proof.Machine

open Sys2Proof

/-! ### The three groups of registers -/

/-- The coding position (10_state R21, R22). -/
def State.position (s : State) : BitVec 13 × Colour :=
  (s.a0, s.a0c)

/-- The temporaries of the mode selector (10_state R23, R24). -/
def State.temps (s : State) :
    BitVec 12 × BitVec 12 × BitVec 12 × BitVec 12 × BitVec 13 × BitVec 12 × BitVec 12 :=
  (s.a1, s.a2, s.b1, s.b2, s.d, s.l1, s.l2)

/-- The run-length emitter's quotient and remainder (10_state R25). -/
def State.runRegs (s : State) : BitVec 6 × BitVec 6 :=
  (s.q, s.r)

theorem State.position_eq_iff {s t : State} : t.position = s.position ↔ t.a0 = s.a0 ∧ t.a0c = s.a0c := by
  simp only [State.position, Prod.mk.injEq]

theorem State.temps_eq_iff {s t : State} : t.temps = s.temps ↔
    t.a1 = s.a1 ∧ t.a2 = s.a2 ∧ t.b1 = s.b1 ∧ t.b2 = s.b2 ∧ t.d = s.d ∧ t.l1 = s.l1 ∧ t.l2 = s.l2 := by
  simp only [State.temps, Prod.mk.injEq]

theorem State.runRegs_eq_iff {s t : State} : t.runRegs = s.runRegs ↔ t.q = s.q ∧ t.r = s.r := by
  simp only [State.runRegs, Prod.mk.injEq]

/-! ### What an operation keeps -/

/-- An operation leaves a view of the state as it was, whatever it comes to. -/
def Keeps {α : Type} (view : State → α) (f : State → Flow) : Prop :=
  ∀ s t b, f s = .run t b → view t = view s

/-- A view of the state that shows neither the sink nor the fault record. -/
structure OffSink {α : Type} (view : State → α) : Prop where
  record : ∀ s tx accepted, view (s.record tx accepted) = view s
  raise : ∀ s code, view (s.raise code) = view s

theorem State.position_offSink : OffSink State.position := ⟨fun _ _ _ => rfl, fun _ _ => rfl⟩

theorem State.temps_offSink : OffSink State.temps := ⟨fun _ _ _ => rfl, fun _ _ => rfl⟩

theorem State.runRegs_offSink : OffSink State.runRegs := ⟨fun _ _ _ => rfl, fun _ _ => rfl⟩

section
variable {α : Type} {view : State → α}

theorem Keeps.andThen {f k : State → Flow} (hf : Keeps view f) (hk : Keeps view k) :
    Keeps view fun s => (f s).andThen k := by
  intro s u b h
  rcases Flow.andThen_eq_run h with ⟨_, h⟩ | ⟨t, h1, h2⟩
  · exact hf _ _ _ h
  · exact (hk _ _ _ h2).trans (hf _ _ _ h1)

theorem Keeps.of_update {g : State → State} {b : Bool} (h : ∀ s, view (g s) = view s) :
    Keeps view fun s => .run (g s) b := by
  intro s t c hf
  simp only [Flow.run.injEq] at hf
  exact hf.1 ▸ h s

/-- Ignoring an operation in phase ERROR keeps what the operation keeps. -/
theorem Keeps.unlessError {f : State → Flow} (hf : Keeps view f) {s t : State} (h : unlessError f s = .next t) :
    view t = view s := by
  rcases unlessError_eq_next h with ⟨_, rfl⟩ | ⟨_, b, hb⟩
  · rfl
  · exact hf _ _ _ hb

theorem sinkTransact_keeps (hv : OffSink view) (tx : SinkTx) : Keeps view (sinkTransact tx) := by
  intro s t b h
  rcases sinkTransact_cases h with ⟨_, rfl⟩ | ⟨_, rfl⟩
  · exact hv.record s tx true
  · exact (hv.raise _ _).trans (hv.record s tx false)

theorem sendFrom_keeps (hv : OffSink view) (addr : BitVec 9) : Keeps view (sendFrom addr) := by
  intro s t b h
  obtain ⟨c, _, h⟩ := sendFrom_eq_run h
  exact sinkTransact_keeps hv _ s t b h

theorem runMakeup_keeps (hv : OffSink view) (n : Nat) (c : Colour) : Keeps view (runMakeup n c) := by
  intro s t b h
  unfold runMakeup at h
  split at h
  · exact Keeps.of_update (g := id) (fun _ => rfl) s t b h
  · split at h
    · exact Keeps.of_update (g := State.raise .runLengthRange) (fun s => hv.raise s _) s t b h
    · exact sendFrom_keeps hv _ s t b h

/-- RUN keeps every view that does not show Q and R either (43 R181). -/
theorem runLength_keeps (hv : OffSink view) (hs : ∀ s n, view (s.splitRun n) = view s) (n : Nat) (c : Colour) :
    Keeps view (runLength n c) := fun s t b h =>
  (((runMakeup_keeps hv n c).andThen fun u => sendFrom_keeps hv _ u) _ t b h).trans (hs s n)

/-- Pass and vertical mode keep every view that does not show the coding position either (42 R154, R155). -/
theorem passMode_keeps (hv : OffSink view) (hp : ∀ (s : State) (x : BitVec 13), view { s with a0 := x } = view s) :
    Keeps view passMode :=
  (sendFrom_keeps hv _).andThen (.of_update (g := fun t => { t with a0 := t.b2.setWidth 13 }) fun _ => hp _ _)

theorem verticalMode_keeps (hv : OffSink view)
    (hp : ∀ (s : State) (x : BitVec 13) (c : Colour), view { s with a0 := x, a0c := c } = view s) (sym : BitVec 6) :
    Keeps view (verticalMode sym) :=
  (sendFrom_keeps hv _).andThen
    (.of_update (g := fun t => { t with a0 := t.a1.setWidth 13, a0c := opp t.a0c }) fun _ => hp _ _ _)

end

/-! ### What `exec` does to the registers -/

/-- The mode operations that update the coding position and touch no temporary (42 R154 to R163). -/
def positionModes : List Instr :=
  [.p, .v0, .vr1, .vr2, .vr3, .vl1, .vl2, .vl3]

/-- Everything an operation can do to the registers. -/
inductive RegisterEffect : Instr → State → State → Prop
  | kept {i s t} (hp : t.position = s.position) (ht : t.temps = s.temps) (hr : t.runRegs = s.runRegs) :
      RegisterEffect i s t
  | moved {i s t} (hi : i ∈ positionModes) (ht : t.temps = s.temps) (hr : t.runRegs = s.runRegs) :
      RegisterEffect i s t
  | run {s t} (n : BitVec 12) (c : Colour) (hp : t.position = s.position) (ht : t.temps = s.temps) :
      RegisterEffect (.run n c) s t
  | coded {i s t} (hi : i = .h ∨ i = .rowenc ∨ i = .row) : RegisterEffect i s t
  | cleared {s} : RegisterEffect .clear s s.cleared

/-- The host's writes touch the registers in ROW and CLEAR alone. -/
theorem HostEffect.registers {i : Instr} {s t : State} (h : HostEffect i s t) : RegisterEffect i s t := by
  cases h with
  | rowFails _ _ _ => exact .coded (by simp)
  | row _ _ _ _ => exact .coded (by simp)
  | clear => exact .cleared
  | _ => exact .kept rfl rfl rfl

/-- One code word and nothing else. -/
theorem registers_of_sendFrom {i : Instr} {addr : BitVec 9} {s t : State}
    (h : unlessError (sendFrom addr) s = .next t) : RegisterEffect i s t :=
  .kept ((sendFrom_keeps State.position_offSink addr).unlessError h)
    ((sendFrom_keeps State.temps_offSink addr).unlessError h)
    ((sendFrom_keeps State.runRegs_offSink addr).unlessError h)

theorem registers_of_sinkTransact {i : Instr} {tx : SinkTx} {s t : State}
    (h : unlessError (sinkTransact tx) s = .next t) : RegisterEffect i s t :=
  .kept ((sinkTransact_keeps State.position_offSink tx).unlessError h)
    ((sinkTransact_keeps State.temps_offSink tx).unlessError h)
    ((sinkTransact_keeps State.runRegs_offSink tx).unlessError h)

theorem registers_of_passMode {s t : State} (h : unlessError passMode s = .next t) : RegisterEffect .p s t :=
  .moved (by decide) ((passMode_keeps State.temps_offSink fun _ _ => rfl).unlessError h)
    ((passMode_keeps State.runRegs_offSink fun _ _ => rfl).unlessError h)

theorem registers_of_verticalMode {i : Instr} (hi : i ∈ positionModes) {sym : BitVec 6} {s t : State}
    (h : unlessError (verticalMode sym) s = .next t) : RegisterEffect i s t :=
  .moved hi ((verticalMode_keeps State.temps_offSink (fun _ _ _ => rfl) sym).unlessError h)
    ((verticalMode_keeps State.runRegs_offSink (fun _ _ _ => rfl) sym).unlessError h)

theorem registers_of_runLength {n : BitVec 12} {c : Colour} {s t : State}
    (h : unlessError (runLength n.toNat c) s = .next t) : RegisterEffect (.run n c) s t :=
  .run n c ((runLength_keeps State.position_offSink (fun _ _ => rfl) _ c).unlessError h)
    ((runLength_keeps State.temps_offSink (fun _ _ => rfl) _ c).unlessError h)

theorem registers_of_giveOr {i : Instr} {e : Except Refusal Result} {s t : State} (h : giveOr e s = .next t) :
    RegisterEffect i s t := by
  obtain ⟨v, rfl⟩ := giveOr_eq_next h
  exact .kept rfl rfl rfl

theorem exec_registers {i : Instr} {s t : State} (h : exec i s = .next t) : RegisterEffect i s t := by
  cases i with
  | p => exact registers_of_passMode h
  | v0 => exact registers_of_verticalMode (by decide) h
  | vr1 => exact registers_of_verticalMode (by decide) h
  | vr2 => exact registers_of_verticalMode (by decide) h
  | vr3 => exact registers_of_verticalMode (by decide) h
  | vl1 => exact registers_of_verticalMode (by decide) h
  | vl2 => exact registers_of_verticalMode (by decide) h
  | vl3 => exact registers_of_verticalMode (by decide) h
  | h => exact .coded (.inl rfl)
  | rowenc => exact .coded (.inr (.inl rfl))
  | run n c => exact registers_of_runLength h
  | init => exact (hostOp_cases .init h).registers
  | row => exact (hostOp_cases .row h).registers
  | eofbCmd => exact (hostOp_cases .eofbCmd h).registers
  | clear => exact (hostOp_cases .clear h).registers
  | wrWidth w => exact (hostOp_cases (.wrWidth w) h).registers
  | wrCtrl ba => exact (hostOp_cases (.wrCtrl ba) h).registers
  | pix c => exact (hostOp_cases (.pix c) h).registers
  | rdStatus => cases h; exact .kept rfl rfl rfl
  | rdLoadcnt => cases h; exact .kept rfl rfl rfl
  | scan l n start => exact registers_of_giveOr h
  | lookupMode sym => exact registers_of_giveOr h
  | lookupTerm c r => exact registers_of_giveOr h
  | lookupMakeup c q => exact registers_of_giveOr h
  | eofb => exact registers_of_sinkTransact h
  | align => exact registers_of_sinkTransact h
  | final => exact registers_of_sinkTransact h
  | _ => exact registers_of_sendFrom h

theorem exec_position {i : Instr} {s t : State} (h : exec i s = .next t) : t.position = s.position ∨
    i ∈ ([.p, .h, .v0, .vr1, .vr2, .vr3, .vl1, .vl2, .vl3, .rowenc, .row] : List Instr) := by
  cases exec_registers h with
  | kept hp _ _ => exact .inl hp
  | moved hi _ _ =>
    simp only [positionModes, List.mem_cons, List.not_mem_nil, or_false] at hi ⊢
    tauto
  | run n c hp _ => exact .inl hp
  | coded hi => exact .inr (by rcases hi with rfl | rfl | rfl <;> decide)
  | cleared => exact .inl rfl

theorem exec_temps {i : Instr} {s t : State} (h : exec i s = .next t) : t.temps = s.temps ∨
    i ∈ ([.h, .rowenc, .row, .clear] : List Instr) := by
  cases exec_registers h with
  | kept _ ht _ => exact .inl ht
  | moved _ ht _ => exact .inl ht
  | run n c _ ht => exact .inl ht
  | coded hi => exact .inr (by rcases hi with rfl | rfl | rfl <;> decide)
  | cleared => exact .inr (by decide)

theorem exec_runRegs {i : Instr} {s t : State} (h : exec i s = .next t) : t.runRegs = s.runRegs ∨
    (∃ n c, i = .run n c) ∨ i ∈ ([.h, .rowenc, .row, .clear] : List Instr) := by
  cases exec_registers h with
  | kept _ _ hr => exact .inl hr
  | moved _ _ hr => exact .inl hr
  | run n c _ _ => exact .inr (.inl ⟨n, c, rfl⟩)
  | coded hi => exact .inr (.inr (by rcases hi with rfl | rfl | rfl <;> decide))
  | cleared => exact .inr (.inr (by decide))

/-! ### What `exec` does to REFV, LOADCNT and ERRCODE -/

/-- Which operation may change REFV, LOADCNT and ERRCODE, and to what (10_state R28, R33, R35). -/
structure FlagRule (i : Instr) (s t : State) : Prop where
  refv : t.refv = s.refv ∨ (i = .row ∧ s.phase = .page ∧ t.refv = true) ∨ ((i = .init ∨ i = .clear) ∧ t.refv = false)
  loadcnt : t.loadcnt = s.loadcnt ∨ ((∃ c, i = .pix c) ∧ t.loadcnt.toNat = s.loadcnt.toNat + 1) ∨
    ((i = .row ∨ i = .init ∨ i = .clear) ∧ t.loadcnt = 0)
  errcode : t.errcode = s.errcode ∨ (s.phase ≠ .error ∧ t.phase = .error ∧ t.errcode ≠ .none) ∨
    (i = .clear ∧ t.errcode = .none)

/-- Coding a line changes ERRCODE only by taking a fault. -/
theorem Coded.errcode {s t : State} {b : Bool} (h : Coded s t b) :
    t.errcode = s.errcode ∨ (t.phase = .error ∧ t.errcode ≠ .none) := by
  cases b with
  | false => exact .inl (h.clean rfl).2
  | true =>
    obtain ⟨phase, errcode⟩ := h.raised rfl
    exact .inr ⟨phase, by rcases errcode with e | e <;> simp [e]⟩

theorem Coded.flags {i : Instr} {s t : State} {b : Bool} (h : Coded s t b) (hp : s.phase ≠ .error) :
    FlagRule i s t :=
  ⟨.inl h.frame.refv, .inl h.frame.loadcnt, h.errcode.imp_right fun hf => .inl ⟨hp, hf⟩⟩

theorem HostEffect.flags {i : Instr} {s t : State} (h : HostEffect i s t) : FlagRule i s t := by
  cases h with
  | raised hp he => exact ⟨.inl rfl, .inl rfl, .inr (.inl ⟨hp, rfl, he⟩)⟩
  | init _ _ _ => exact ⟨.inr (.inr ⟨.inl rfl, rfl⟩), .inr (.inr ⟨.inr (.inl rfl), rfl⟩), .inl rfl⟩
  | pix c _ h1 _ => exact ⟨.inl rfl, .inr (.inl ⟨⟨c, rfl⟩, State.loadcnt_succ_toNat h1⟩), .inl rfl⟩
  | rowFails hp _ h => exact (encodeRow_coded h).flags (by simp [hp])
  | row hp _ h ha =>
    have coded := (encodeRow_coded h).clean rfl
    have aligned := alignIfAsked_coded ha
    exact ⟨.inr (.inl ⟨rfl, hp, aligned.frame.refv⟩), .inr (.inr ⟨.inl rfl, aligned.frame.loadcnt⟩),
      aligned.errcode.imp (fun he => he.trans coded.2) fun hf => .inl ⟨by simp [hp], hf⟩⟩
  | eofbFails hp _ => exact ⟨.inl rfl, .inl rfl, .inr (.inl ⟨by simp [hp], rfl, by simp⟩)⟩
  | finalizeFails hp _ => exact ⟨.inl rfl, .inl rfl, .inr (.inl ⟨by simp [hp], rfl, by simp⟩)⟩
  | clear => exact ⟨.inr (.inr ⟨.inr rfl, rfl⟩), .inr (.inr ⟨.inr (.inr rfl), rfl⟩), .inr (.inr ⟨rfl, rfl⟩)⟩
  | _ => exact ⟨.inl rfl, .inl rfl, .inl rfl⟩

theorem exec_flags {i : Instr} {s t : State} (h : exec i s = .next t) : FlagRule i s t := by
  rcases exec_cases h with ⟨_, rfl⟩ | ⟨hp, b, hc⟩ | ⟨v, rfl⟩ | hi
  · exact ⟨.inl rfl, .inl rfl, .inl rfl⟩
  · exact hc.flags hp
  · exact ⟨.inl rfl, .inl rfl, .inl rfl⟩
  · exact (hostOp_cases hi h).flags

/-! ### The accesses without a row, and the statement -/

/-- An access without a row that is no reset keeps all of these but ERRCODE, which a reserved command may set. -/
theorem AccessEffect.registers {a : HostAccess} {s t : State} (h : AccessEffect a s t) :
    (∃ sent, t = s.abandoned sent ∧ (a = .hardwareReset ∨ ∃ offset data n, a = .resetDuring offset data n)) ∨
      (t.position = s.position ∧ t.temps = s.temps ∧ t.runRegs = s.runRegs ∧ t.refv = s.refv ∧
        t.loadcnt = s.loadcnt ∧
        (t.errcode = s.errcode ∨ (s.phase ≠ .error ∧ t.phase = .error ∧ t.errcode ≠ .none))) := by
  cases h with
  | reset sent ha => exact .inl ⟨sent, rfl, ha⟩
  | reserved hp => exact .inr ⟨rfl, rfl, rfl, rfl, rfl, .inr ⟨hp, rfl, by simp⟩⟩
  | _ => exact .inr ⟨rfl, rfl, rfl, rfl, rfl, .inl rfl⟩

theorem isReset_of_decode {req : Request} {a : HostAccess} (hd : decode req = .access a)
    (ha : a = .hardwareReset ∨ ∃ offset data n, a = .resetDuring offset data n) : isReset req := by
  rcases ha with rfl | ⟨offset, data, n, rfl⟩
  · exact .inl hd
  · exact .inr ⟨_, _, _, hd⟩

/-- Settles O59: `exec_registers` and `exec_flags` for the operations, `AccessEffect.registers` for the rest. -/
theorem workingRegistersAndFlagsChangeOnlyAsStated : Obligations.WorkingRegistersAndFlagsChangeOnlyAsStated := by
  intro s t req rest hin h
  simp only [← State.position_eq_iff, ← State.temps_eq_iff, ← State.runRegs_eq_iff]
  rcases step_cases hin h with ⟨i, hd, he⟩ | ⟨a, hd, ha⟩
  · have is_op {j : Instr} (hi : i = j) : decode req = .instr j := hi ▸ hd
    refine ⟨(exec_position he).imp_right fun hi => .inr ⟨i, hi, hd⟩,
      (exec_temps he).imp_right fun hi => .inr ⟨i, hi, hd⟩, ?_, ?_, ?_, ?_⟩
    · rcases exec_runRegs he with hr | ⟨n, c, hi⟩ | hi
      · exact .inl hr
      · exact .inr (.inr (.inl ⟨n, c, is_op hi⟩))
      · exact .inr (.inr (.inr ⟨i, hi, hd⟩))
    · rcases (exec_flags he).refv with hv | ⟨hi, hp, hv⟩ | ⟨hi, hv⟩
      · exact .inl hv
      · exact .inr (.inl ⟨is_op hi, hp, hv⟩)
      · exact .inr (.inr ⟨hi.imp is_op fun hi => .inl (is_op hi), hv⟩)
    · rcases (exec_flags he).loadcnt with hl | ⟨⟨c, hi⟩, hl⟩ | ⟨hi, hl⟩
      · exact .inl hl
      · exact .inr (.inl ⟨⟨c, is_op hi⟩, hl⟩)
      · exact .inr (.inr ⟨hi.imp is_op (Or.imp is_op fun hi => .inl (is_op hi)), hl⟩)
    · rcases (exec_flags he).errcode with hc | hc | ⟨hi, hc⟩
      · exact .inl hc
      · exact .inr (.inl hc)
      · exact .inr (.inr ⟨.inl (is_op hi), hc⟩)
  · rcases (hostAccess_cases ha).registers with ⟨sent, rfl, hreset⟩ | ⟨hp, ht, hr, hv, hl, he⟩
    · have reset := isReset_of_decode hd hreset
      exact ⟨.inr (.inl reset), .inr (.inl reset), .inr (.inl reset), .inr (.inr ⟨.inr (.inr reset), rfl⟩),
        .inr (.inr ⟨.inr (.inr (.inr reset)), rfl⟩), .inr (.inr ⟨.inr reset, rfl⟩)⟩
    · exact ⟨.inl hp, .inl ht, .inl hr, .inl hv, .inl hl, he.imp_right .inl⟩

end Sys2Proof.Machine
end

section
/-! Noninterference of the registers ROWENC does not read (42_mode_selector R150): two runs in lockstep, from states
that agree on the line and the sink's answers, one relation (`Alike`) kept by every operation of the line encoder. -/

namespace Sys2Proof.Machine

open Sys2Proof

/-! ### The relation -/

/-- Two runs that began with the sink logs `l` and `m` agree on all that coding a line reads between two iterations
of the row loop, and have sent the same transactions. -/
structure Alike (l m : List SinkEvent) (s u : State) : Prop where
  a0 : u.a0 = s.a0
  a0c : u.a0c = s.a0c
  width : u.width = s.width
  refv : u.refv = s.refv
  cur : u.cur = s.cur
  ref : u.ref = s.ref
  phase : u.phase = s.phase
  errcode : u.errcode = s.errcode
  answers : u.sinkAnswers = s.sinkAnswers
  txCount : u.txCount = s.txCount
  log : ∃ new, s.sinkLog = l ++ new ∧ u.sinkLog = m ++ new

/-- Where the first operation comes to a state the second comes to a related one, with a fault or without as the
first. -/
def InStep (R : State → State → Prop) (f g : Flow) : Prop :=
  ∀ t b, f = .run t b → ∃ v, g = .run v b ∧ R t v

theorem InStep.of_run {R : State → State → Prop} {t v : State} {b : Bool} (h : R t v) :
    InStep R (.run t b) (.run v b) := by
  intro t' b' ht
  simp only [Flow.run.injEq] at ht
  obtain ⟨rfl, rfl⟩ := ht
  exact ⟨v, rfl, h⟩

theorem InStep.refuse {R : State → State → Prop} {why : Refusal} {g : Flow} : InStep R (.refuse why) g :=
  fun _ _ h => by simp at h

/-- Two sequences in lockstep; a fault in their first parts ends both. -/
theorem InStep.andThen_of_imp {R S : State → State → Prop} {f g : Flow} {k k' : State → Flow} (h : InStep R f g)
    (raised : ∀ t v, R t v → S t v)
    (hk : ∀ t v, f = .run t false → g = .run v false → R t v → InStep S (k t) (k' v)) :
    InStep S (f.andThen k) (g.andThen k') := by
  intro u b hu
  rcases Flow.andThen_eq_run hu with ⟨rfl, hf⟩ | ⟨t, hf, ht⟩
  · obtain ⟨v, hg, hv⟩ := h _ _ hf
    exact ⟨v, by rw [hg]; rfl, raised _ _ hv⟩
  · obtain ⟨v, hg, hv⟩ := h _ _ hf
    obtain ⟨w, hw, hS⟩ := hk t v hf hg hv _ _ ht
    exact ⟨w, by rw [hg]; exact hw, hS⟩

theorem InStep.andThen {R : State → State → Prop} {f g : Flow} {k k' : State → Flow} (h : InStep R f g)
    (hk : ∀ t v, f = .run t false → g = .run v false → R t v → InStep R (k t) (k' v)) :
    InStep R (f.andThen k) (g.andThen k') :=
  h.andThen_of_imp (fun _ _ h => h) hk

/-- Two runs of an operation that keeps a view agree on the view after it where they did before. -/
theorem Keeps.agree {α : Type} {view : State → α} {f : State → Flow} (h : Keeps view f) {s t u v : State} {b : Bool}
    (ht : f s = .run t b) (hv : f u = .run v b) (hview : view u = view s) : view v = view t :=
  (h _ _ _ hv).trans (hview.trans (h _ _ _ ht).symm)

section
variable {l m : List SinkEvent} {s u : State}

theorem Alike.w (h : Alike l m s u) : u.w = s.w := congrArg BitVec.toNat h.width

theorem Alike.scanLine_cur (h : Alike l m s u) (n : Nat) (start : Int) :
    scanLine .cur n start u = scanLine .cur n start s := scanLine_congr (l := .cur) h.width h.cur n start

theorem Alike.scanLine_ref (h : Alike l m s u) (n : Nat) (start : Int) :
    scanLine .ref n start u = scanLine .ref n start s := scanLine_congr (l := .ref) h.width h.ref n start

theorem Alike.readPixel_ref (h : Alike l m s u) (i : Nat) : readPixel .ref i u = readPixel .ref i s :=
  readPixel_congr h.width h.ref

theorem Alike.findB1 (h : Alike l m s u) : findB1 u = findB1 s := by
  unfold Machine.findB1
  simp only [h.scanLine_ref, h.readPixel_ref, h.w, h.a0, h.a0c]

/-! ### The operations that send -/

theorem Alike.record (h : Alike l m s u) (tx : SinkTx) (accepted : Bool) :
    Alike l m (s.record tx accepted) (u.record tx accepted) := by
  obtain ⟨new, hs, hu⟩ := h.log
  exact ⟨h.a0, h.a0c, h.width, h.refv, h.cur, h.ref, h.phase, h.errcode, congrArg List.tail h.answers,
    congrArg (· + 1) h.txCount, new ++ [⟨s.txCount, tx, accepted⟩], by simp [hs], by simp [hu, h.txCount]⟩

theorem Alike.raise (h : Alike l m s u) (code : ErrCode) : Alike l m (s.raise code) (u.raise code) :=
  { h with phase := rfl, errcode := rfl }

theorem Alike.sinkTransact (h : Alike l m s u) (tx : SinkTx) :
    InStep (Alike l m) (sinkTransact tx s) (sinkTransact tx u) := by
  have verdict : u.sinkVerdict = s.sinkVerdict := by
    unfold State.sinkVerdict
    rw [h.answers, h.txCount]
  unfold Machine.sinkTransact
  rw [verdict]
  cases s.sinkVerdict with
  | none => exact fun _ _ hf => by simp at hf
  | some accepted =>
    cases accepted with
    | true => exact .of_run (h.record tx true)
    | false => exact .of_run ((h.record tx false).raise _)

theorem Alike.sendFrom (h : Alike l m s u) (addr : BitVec 9) :
    InStep (Alike l m) (sendFrom addr s) (sendFrom addr u) := by
  unfold Machine.sendFrom
  cases romRead addr with
  | error why => exact .refuse
  | ok c => exact h.sinkTransact _

/-- Q and R are outside the relation. -/
theorem Alike.splitRun (h : Alike l m s u) (n : Nat) : Alike l m (s.splitRun n) (u.splitRun n) := { h with }

theorem Alike.runMakeup (h : Alike l m s u) (n : Nat) (c : Colour) (hq : u.q = s.q) :
    InStep (Alike l m) (runMakeup n c s) (runMakeup n c u) := by
  unfold Machine.runMakeup
  rw [hq]
  split
  · exact .of_run h
  · split
    · exact .of_run (h.raise _)
    · exact h.sendFrom _

/-- RUN reads Q and R only after it has written them (43 R181). -/
theorem Alike.runLength (h : Alike l m s u) (n : Nat) (c : Colour) :
    InStep (Alike l m) (runLength n c s) (runLength n c u) := by
  refine ((h.splitRun n).runMakeup n c rfl).andThen fun t v ht hv h => ?_
  have hr : v.runRegs = t.runRegs := (runMakeup_keeps State.runRegs_offSink n c).agree ht hv rfl
  rw [(State.runRegs_eq_iff.1 hr).2]
  exact h.sendFrom _

/-! ### The modes -/

theorem State.a1_offSink : OffSink State.a1 := ⟨fun _ _ _ => rfl, fun _ _ => rfl⟩

theorem State.b2_offSink : OffSink State.b2 := ⟨fun _ _ _ => rfl, fun _ _ => rfl⟩

theorem Alike.passMode (h : Alike l m s u) (hb2 : u.b2 = s.b2) : InStep (Alike l m) (passMode s) (passMode u) := by
  refine (h.sendFrom _).andThen fun t v ht hv h => .of_run { h with a0 := ?_ }
  have : v.b2 = t.b2 := (sendFrom_keeps State.b2_offSink _).agree ht hv hb2
  simp only [this]

theorem Alike.verticalMode (h : Alike l m s u) (sym : BitVec 6) (ha1 : u.a1 = s.a1) :
    InStep (Alike l m) (verticalMode sym s) (verticalMode sym u) := by
  refine (h.sendFrom _).andThen fun t v ht hv h =>
    .of_run { h with a0 := ?_, a0c := congrArg opp h.a0c }
  have : v.a1 = t.a1 := (sendFrom_keeps State.a1_offSink _).agree ht hv ha1
  simp only [this]

/-- The two runs agree on the elements horizontal mode measures as well. -/
structure Measured (l m : List SinkEvent) (s u : State) : Prop extends Alike l m s u where
  a1 : u.a1 = s.a1
  a2 : u.a2 = s.a2

theorem Alike.measureRuns (h : Alike l m s u) (ha1 : u.a1 = s.a1) :
    InStep (Measured l m) (measureRuns s) (measureRuns u) := by
  intro t b hb
  obtain ⟨j, rfl, hj, rfl, h1, h2⟩ := measureRuns_eq_run hb
  have scan : scanLine .cur u.w u.a1.toNat u = .ok j := by rw [h.scanLine_cur, h.w, ha1, hj]
  have first : 0 ≤ u.firstRun := by simpa only [State.firstRun, ha1, h.a0] using h1
  have second : 0 ≤ ({ u with a2 := BitVec.ofNat 12 j } : State).secondRun := by
    simpa only [State.secondRun, ha1] using h2
  refine ⟨{ u with
    a2 := BitVec.ofNat 12 j
    l1 := BitVec.ofInt 12 u.firstRun
    l2 := BitVec.ofInt 12 ((BitVec.ofNat 12 j).toNat - u.a1.toNat) }, ?_, { h with }, ha1, rfl⟩
  rw [Machine.measureRuns, scan]
  exact if_neg fun h => h.elim (not_lt.2 first) (not_lt.2 second)

theorem Measured.sendRuns (h : Measured l m s u) : InStep (Alike l m) (sendRuns s) (sendRuns u) := by
  have keeps (n : Nat) (c : Colour) : Keeps (fun s => (s.a1, s.a2)) (runLength n c) :=
    runLength_keeps ⟨fun _ _ _ => rfl, fun _ _ => rfl⟩ (fun _ _ => rfl) n c
  unfold Machine.sendRuns
  rw [show u.firstRun = s.firstRun by simp only [State.firstRun, h.a1, h.a0], h.a0c]
  refine (h.toAlike.runLength _ _).andThen fun t v ht hv htv => ?_
  obtain ⟨a1, a2⟩ := Prod.mk.inj ((keeps _ _).agree ht hv (by simp only [h.a1, h.a2]))
  rw [show v.secondRun = t.secondRun by simp only [State.secondRun, a1, a2], htv.a0c]
  refine (htv.runLength _ _).andThen fun t' v' ht' hv' h' => .of_run { h' with a0 := ?_ }
  obtain ⟨_, a2'⟩ := Prod.mk.inj ((keeps _ _).agree ht' hv' (by simp only [a1, a2]))
  simp only [a2']

theorem Alike.horizontalMode (h : Alike l m s u) (ha1 : u.a1 = s.a1) :
    InStep (Alike l m) (horizontalMode s) (horizontalMode u) := by
  rw [Machine.horizontalMode, Machine.horizontalMode, Flow.andThen_assoc, Flow.andThen_assoc]
  refine (h.sendFrom _).andThen fun t v ht hv h => ?_
  have : v.a1 = t.a1 := (sendFrom_keeps State.a1_offSink _).agree ht hv ha1
  exact (h.measureRuns this).andThen_of_imp (fun _ _ h => h.toAlike) fun _ _ _ _ h => h.sendRuns

/-! ### The row loop -/

/-- The two runs agree on the elements the mode is chosen by as well. -/
structure Detected (l m : List SinkEvent) (s u : State) : Prop extends Alike l m s u where
  a1 : u.a1 = s.a1
  b1 : u.b1 = s.b1
  b2 : u.b2 = s.b2

theorem Alike.detectA1 (h : Alike l m s u) :
    InStep (fun t v => Alike l m t v ∧ v.a1 = t.a1) (detectA1 s) (detectA1 u) := by
  intro t b hb
  obtain ⟨j, rfl, hj, rfl⟩ := detectA1_eq_run hb
  have scan : scanLine .cur u.w u.a0.toInt u = .ok j := by rw [h.scanLine_cur, h.w, h.a0, hj]
  exact ⟨{ u with a1 := BitVec.ofNat 12 j }, by rw [Machine.detectA1, scan]; rfl, { h with }, rfl⟩

theorem Alike.detectB (h : Alike l m s u) (ha1 : u.a1 = s.a1) : InStep (Detected l m) (detectB s) (detectB u) := by
  intro t b hb
  obtain ⟨rfl, ⟨hr, rfl⟩ | ⟨hr, j, k, hj, hk, rfl⟩⟩ := detectB_eq_run hb
  · exact ⟨{ u with b1 := u.width, b2 := u.width }, if_pos (h.refv.trans hr), { h with }, ha1, h.width, h.width⟩
  · have find : Machine.findB1 u = .ok j := by rw [h.findB1, hj]
    have scan : scanLine .ref u.w j u = .ok k := by rw [h.scanLine_ref, h.w, hk]
    refine ⟨{ u with b1 := BitVec.ofNat 12 j, b2 := BitVec.ofNat 12 k }, ?_, { h with }, ha1, rfl, rfl⟩
    rw [Machine.detectB, if_neg (by simp [h.refv, hr]), find]
    simp only [scan]

theorem Detected.performMode (h : Detected l m s u) : InStep (Alike l m) (performMode s) (performMode u) := by
  have distance : u.distance = s.distance := by simp only [State.distance, h.a1, h.b1]
  have choice : chooseMode u = chooseMode s := by simp only [chooseMode, h.a1, h.b2, distance]
  have writeD (x : BitVec 13) : Alike l m { s with d := x } { u with d := x } := { h.toAlike with }
  unfold Machine.performMode
  rw [choice, distance]
  cases chooseMode s with
  | pass => exact h.toAlike.passMode h.b2
  | vertical => exact (writeD _).verticalMode _ h.a1
  | horizontal => exact (writeD _).horizontalMode h.a1

theorem Alike.rowIteration (h : Alike l m s u) : InStep (Alike l m) (rowIteration s) (rowIteration u) := by
  rw [Machine.rowIteration, Machine.rowIteration, Flow.andThen_assoc (Machine.detectA1 s),
    Flow.andThen_assoc (Machine.detectA1 u)]
  refine (h.detectA1.andThen_of_imp (fun _ _ h => h.1) fun _ _ _ _ ⟨h, ha1⟩ => ?_).andThen
    fun _ _ _ _ h => .of_run { h with }
  exact (h.detectB ha1).andThen_of_imp (fun _ _ h => h.toAlike) fun _ _ _ _ h => h.performMode

theorem Alike.rowLoop (h : Alike l m s u) (bound : Nat) : InStep (Alike l m) (rowLoop bound s) (rowLoop bound u) := by
  induction bound generalizing s u with
  | zero => exact .of_run h
  | succ bound ih =>
    unfold Machine.rowLoop
    rw [h.a0, h.w]
    split
    · exact h.rowIteration.andThen fun _ _ _ _ h => ih h
    · exact .of_run h

end

/-- Settles O41: after `A0 <- -1; A0C <- WHITE` the two runs are alike, and `Alike.rowLoop` keeps them so. -/
theorem rowencIgnoresStaleRegisters : Obligations.RowencIgnoresStaleRegisters := by
  intro s u t hp width refv cur ref phase errcode answers txCount h
  have start : Alike s.sinkLog u.sinkLog s.startRow u.startRow :=
    ⟨rfl, rfl, width, refv, cur, ref, phase, errcode, answers, txCount, [], by simp, by simp⟩
  have inStep := start.rowLoop (s.w + 1)
  rw [exec, execRowenc, unlessError_of_ne hp] at h
  obtain ⟨b, hb⟩ := Flow.outcome_eq_next h
  obtain ⟨v, hv, alike⟩ := inStep t b hb
  obtain ⟨new, ht, hu⟩ := alike.log
  have encode : encodeRow u = .run v b := by rw [encodeRow, show u.w = s.w from congrArg BitVec.toNat width, hv]
  exact ⟨v, new, by rw [exec, execRowenc, unlessError_of_ne (phase ▸ hp), encode]; rfl, ht, hu, alike.a0, alike.a0c,
    alike.phase, alike.errcode⟩

end Sys2Proof.Machine
end

section
/-! What a step puts on the sink (20_memory R67, R77): the transactions of an operation as a list (`Issued`), one lemma
per way such a list comes about, and the statements on the order of transactions and on sending codes. -/

namespace Sys2Proof.Machine

open Sys2Proof

/-! ### The transactions between two states -/

/-- A refused transaction is the last one: it is never repeated and nothing follows it. -/
def RefusedLast (new : List SinkEvent) : Prop :=
  ∀ k e, new[k]? = some e → e.accepted = false → k + 1 = new.length

theorem RefusedLast.of_accepted {new : List SinkEvent} (h : ∀ e ∈ new, e.accepted = true) : RefusedLast new :=
  fun _ e hk he => by simp [h e (List.mem_of_getElem? hk)] at he

theorem RefusedLast.singleton (e : SinkEvent) : RefusedLast [e] := by
  intro k d hk _
  obtain ⟨h, -⟩ := List.getElem?_eq_some_iff.1 hk
  simp only [List.length_singleton] at h ⊢
  omega

/-- After accepted transactions more may follow. -/
theorem RefusedLast.append {a b : List SinkEvent} (accepted : ∀ e ∈ a, e.accepted = true) (h : RefusedLast b) :
    RefusedLast (a ++ b) := by
  intro k e hk he
  rcases Nat.lt_or_ge k a.length with hlt | hge
  · rw [List.getElem?_append_left hlt] at hk
    simp [accepted e (List.mem_of_getElem? hk)] at he
  · rw [List.getElem?_append_right hge] at hk
    have := h _ _ hk he
    rw [List.length_append]
    omega

theorem RefusedLast.take {new : List SinkEvent} (h : RefusedLast new) (n : Nat) : RefusedLast (new.take n) := by
  intro k e hk he
  rw [List.getElem?_take] at hk
  split at hk
  · have := h k e hk he
    rw [List.length_take]
    omega
  · simp at hk

/-- From `s` to `t` the sink received exactly the transactions `new`, numbered on without gaps, and none of them after a
refused one. -/
structure Issued (s t : State) (new : List SinkEvent) : Prop where
  log : t.sinkLog = s.sinkLog ++ new
  count : t.txCount = s.txCount + new.length
  number : new.map SinkEvent.number = List.range' s.txCount new.length
  refusedLast : RefusedLast new

/-- Where one of the transactions was refused, `t` records the sink's fault (60_exceptions R211, R216). -/
def RefusalFaults (t : State) (new : List SinkEvent) : Prop :=
  (∃ e ∈ new, e.accepted = false) → t.phase = .error ∧ t.errcode = .sinkWriteFailure

/-- From `s` to `t` some transactions were issued, a refused one ending in the sink's fault. -/
def Transacts (s t : State) : Prop :=
  ∃ new, Issued s t new ∧ RefusalFaults t new

theorem Issued.nil {s t : State} (hl : t.sinkLog = s.sinkLog) (hn : t.txCount = s.txCount) : Issued s t [] :=
  ⟨by simp [hl], hn, rfl, .of_accepted (by simp)⟩

theorem Issued.one {s t : State} {tx : SinkTx} {accepted : Bool}
    (hl : t.sinkLog = s.sinkLog ++ [⟨s.txCount, tx, accepted⟩]) (hn : t.txCount = s.txCount + 1) :
    Issued s t [⟨s.txCount, tx, accepted⟩] :=
  ⟨hl, hn, rfl, .singleton _⟩

theorem Issued.append {s t u : State} {a b : List SinkEvent} (h : Issued s t a)
    (accepted : ∀ e ∈ a, e.accepted = true) (k : Issued t u b) : Issued s u (a ++ b) := by
  refine ⟨by simp [k.log, h.log], by simp [k.count, h.count, Nat.add_assoc], ?_, .append accepted k.refusedLast⟩
  rw [List.map_append, h.number, k.number, h.count, List.length_append, List.range'_append_1]

/-- What the sink keeps of a command cut short is still in order (70_reset R240). -/
theorem Issued.abandoned {s u : State} {new : List SinkEvent} (h : Issued s u new) (n : Nat) :
    Issued s (s.abandoned (new.take n)) (new.take n) := by
  refine ⟨rfl, rfl, ?_, h.refusedLast.take n⟩
  rw [List.map_take, h.number]
  exact List.ext_getElem (by simp) fun _ _ _ => by simp

theorem RefusalFaults.of_accepted {t : State} {new : List SinkEvent} (h : ∀ e ∈ new, e.accepted = true) :
    RefusalFaults t new := fun ⟨e, he, hr⟩ => by simp [h e he] at hr

theorem RefusalFaults.append {u : State} {a b : List SinkEvent} (accepted : ∀ e ∈ a, e.accepted = true)
    (h : RefusalFaults u b) : RefusalFaults u (a ++ b) := fun ⟨e, he, hr⟩ =>
  (List.mem_append.1 he).elim (fun he => by simp [accepted e he] at hr) fun he => h ⟨e, he, hr⟩

theorem Transacts.quiet {s t : State} (hl : t.sinkLog = s.sinkLog) (hn : t.txCount = s.txCount) : Transacts s t :=
  ⟨[], .nil hl hn, .of_accepted (by simp)⟩

theorem Transacts.prepend {s t u : State} {a : List SinkEvent} (h : Issued s t a)
    (accepted : ∀ e ∈ a, e.accepted = true) (k : Transacts t u) : Transacts s u := by
  obtain ⟨b, issued, faults⟩ := k
  exact ⟨a ++ b, h.append accepted issued, faults.append accepted⟩

/-! ### The operations -/

/-- An accepted transaction alone. -/
theorem issued_record (s : State) (tx : SinkTx) : Issued s (s.record tx true) [⟨s.txCount, tx, true⟩] :=
  .one rfl rfl

theorem transacts_sinkRefused (s : State) (tx : SinkTx) : Transacts s (s.sinkRefused tx) :=
  ⟨_, .one rfl rfl, fun _ => ⟨rfl, rfl⟩⟩

/-- Coding a line issues its transactions in order, and all are accepted where no fault was raised. -/
theorem Coded.transacts_accepted {s t : State} {b : Bool} (h : Coded s t b) :
    ∃ new, Issued s t new ∧ RefusalFaults t new ∧ (b = false → ∀ e ∈ new, e.accepted = true) := by
  obtain ⟨good, bad, hlog, hgood, hbad⟩ := h.log
  obtain ⟨new, hnew, count, number⟩ := h.number
  obtain rfl : new = good ++ bad := List.append_cancel_left (hnew.symm.trans (hlog.trans (List.append_assoc _ _ _)))
  rcases hbad with ⟨rfl, _⟩ | ⟨rfl, errcode, e, rfl, _⟩
  · have accepted : ∀ e ∈ good ++ [], e.accepted = true := by simpa using hgood
    exact ⟨_, ⟨hnew, count, number, .of_accepted accepted⟩, .of_accepted accepted, fun _ => accepted⟩
  · exact ⟨_, ⟨hnew, count, number, .append hgood (.singleton e)⟩, fun _ => ⟨(h.raised rfl).1, errcode⟩, by simp⟩

theorem Coded.transacts {s t : State} {b : Bool} (h : Coded s t b) : Transacts s t := by
  obtain ⟨new, issued, faults, _⟩ := h.transacts_accepted
  exact ⟨new, issued, faults⟩

/-- ROW goes on to its alignment only after ROWENC's codes were all accepted, EOFB to its finalize only after an accepted
terminator. -/
theorem HostEffect.transacts {i : Instr} {s t : State} (h : HostEffect i s t) : Transacts s t := by
  cases h with
  | rowFails _ _ h => exact (encodeRow_coded h).transacts
  | @row _ u _ _ _ _ h ha =>
    obtain ⟨new, issued, _, accepted⟩ := (encodeRow_coded h).transacts_accepted
    have adopted : Issued s u.adoptRow new := { issued with }
    exact .prepend adopted (accepted rfl) (alignIfAsked_coded ha).transacts
  | eofbFails _ _ => exact transacts_sinkRefused _ _
  | finalizeFails _ _ => exact .prepend (issued_record s _) (by simp) (transacts_sinkRefused _ _)
  | eofb _ _ => exact .prepend (issued_record s _) (by simp) ⟨_, .one rfl rfl, .of_accepted (by simp)⟩
  | _ => exact .quiet rfl rfl

theorem exec_transacts {i : Instr} {s t : State} (h : exec i s = .next t) : Transacts s t := by
  rcases exec_cases h with ⟨_, rfl⟩ | ⟨_, b, hc⟩ | ⟨v, rfl⟩ | hi
  · exact .quiet rfl rfl
  · exact hc.transacts
  · exact .quiet rfl rfl
  · exact (hostOp_cases hi h).transacts

/-- A reset inside a host write leaves the first few of the transactions the write would have sent (70_reset R240). -/
theorem resetDuringWrite_issued {d : Decoded} {n : Nat} {s t : State} (h : resetDuringWrite d n s = .next t) :
    ∃ new, Issued s t new := by
  rcases resetDuringWrite_cases h with rfl | ⟨i, u, _, he, rfl⟩
  · exact ⟨[], .nil rfl rfl⟩
  · obtain ⟨new, issued, _⟩ := exec_transacts he
    have fromS : Issued s u new := { issued with }
    rw [fromS.log, List.drop_left]
    exact ⟨_, fromS.abandoned n⟩

/-- An access without a row that attaches no sink issues nothing, but for what a reset inside a write leaves. -/
theorem hostAccess_issued {a : HostAccess} {s t : State} (ha : a ≠ .attachSink) (h : hostAccess a s = .next t) :
    Transacts s t ∨ ((∃ offset data n, a = .resetDuring offset data n) ∧ ∃ new, Issued s t new) := by
  cases a with
  | resetDuring offset data n => exact .inr ⟨⟨_, _, _, rfl⟩, resetDuringWrite_issued h⟩
  | attachSink => exact absurd rfl ha
  | reservedCommand =>
    simp only [hostAccess] at h
    split at h
    · cases h; exact .inl (.quiet rfl rfl)
    · cases h; exact .inl (.quiet rfl rfl)
  | _ => cases h; exact .inl (.quiet rfl rfl)

/-- Settles O60: `exec_transacts` for the operations, `hostAccess_issued` for the accesses without a row. -/
theorem sinkTransactionsAreOrderedAndNeverRetried : Obligations.SinkTransactionsAreOrderedAndNeverRetried := by
  intro s t req rest hin hattach h
  have served : Transacts { s with inbox := rest } t ∨
      (isReset req ∧ ∃ new, Issued { s with inbox := rest } t new) := by
    rcases step_cases hin h with ⟨i, _, he⟩ | ⟨a, hd, ha⟩
    · exact .inl (exec_transacts he)
    · exact (hostAccess_issued (fun e => hattach (e ▸ hd)) ha).imp_right
        fun ⟨hr, issued⟩ => ⟨isReset_of_decode hd (.inr hr), issued⟩
  rcases served with ⟨new, issued, faults⟩ | ⟨reset, new, issued⟩
  · exact ⟨new, issued.log, issued.count, issued.number, fun k e hk he =>
      ⟨issued.refusedLast k e hk he, .inr (faults ⟨e, List.mem_of_getElem? hk, he⟩)⟩⟩
  · exact ⟨new, issued.log, issued.count, issued.number, fun k e hk he =>
      ⟨issued.refusedLast k e hk he, .inl reset⟩⟩

/-- Settles O20, by induction on the codes: the first takes the next number and the next answer, the others follow. -/
theorem sendingCodesTouchesTheSinkAlone : Obligations.SendingCodesTouchesTheSinkAlone := by
  intro codes
  induction codes with
  | nil => intro s; simp [State.sent]
  | cons c codes ih =>
    intro s
    rw [State.sent_cons, ih]
    simp [State.record, List.mapIdx_cons, Nat.add_comm, Nat.add_left_comm]

end Sys2Proof.Machine
end

section
/-! The alignment of the reference sink (20_memory R71, R75): what an accepted ALIGN makes of an open stream, and that
the codes of a row never close it. -/

namespace Sys2Proof.Machine

open Sys2Proof

theorem State.refSink_record (s : State) (tx : SinkTx) (accepted : Bool) :
    (s.record tx accepted).refSink = s.refSink.after ⟨s.txCount, tx, accepted⟩ := by
  simp [State.refSink]

/-- A code leaves an open sink open, accepted or not (20_memory R70). -/
theorem RefSink.after_code_closed {k : RefSink} {e : SinkEvent} {c : Code} (he : e.tx = .writeCode c)
    (hk : k.closed = false) : (k.after e).closed = false := by
  unfold RefSink.after
  rw [if_neg (by simp [hk])]
  split
  · simp [he]
  · rfl

theorem RefSink.foldl_codes_closed {new : List SinkEvent} {k : RefSink} (h : ∀ e ∈ new, ∃ c, e.tx = .writeCode c)
    (hk : k.closed = false) : (new.foldl RefSink.after k).closed = false := by
  induction new generalizing k with
  | nil => exact hk
  | cons e new ih =>
    obtain ⟨c, hc⟩ := h e List.mem_cons_self
    exact ih (fun d hd => h d (List.mem_cons_of_mem e hd)) (RefSink.after_code_closed hc hk)

/-- Codes alone leave an open stream open. -/
theorem SentCodes.refSink_closed {s t : State} (h : SentCodes s t) (hs : s.refSink.closed = false) :
    t.refSink.closed = false := by
  obtain ⟨new, hlog, codes⟩ := h
  unfold State.refSink
  rw [hlog, List.foldl_append]
  exact RefSink.foldl_codes_closed codes hs

/-- An accepted ALIGN pads an open stream and leaves it open (20_memory R71). -/
theorem State.refSink_record_align {s : State} (hs : s.refSink.closed = false) :
    (s.record .alignToByteBoundary true).refSink = ⟨s.refSink.bits ++ padding s.refSink.bits.length, false⟩ := by
  simp [State.refSink_record, RefSink.after, hs, SinkTx.bits]

theorem length_append_padding_mod (bits : List Bool) : (bits ++ padding bits.length).length % 8 = 0 := by
  simp only [padding, List.length_append, List.length_replicate]
  omega

/-- A ROW with BA = 1 that leaves the page open ended in an accepted ALIGN, on a sink that the codes before it left
open (44 R195). -/
theorem row_aligned {s t : State} (hp : s.phase = .page) (hba : s.ba = true) (hs : s.refSink.closed = false)
    (h : exec .row s = .next t) (ht : t.phase = .page) : t.refSink.bits.length % 8 = 0 := by
  cases hostOp_cases .row h with
  | ignored he => simp [hp] at he
  | raised _ _ => simp at ht
  | rowFails _ _ hf => simp [((encodeRow_coded hf).raised rfl).1] at ht
  | @row _ u _ _ _ _ hu ha =>
    have asked : u.adoptRow.ba = true := (encodeRow_coded hu).frame.ba.trans hba
    have isOpen : u.adoptRow.refSink.closed = false := (encodeRow_sendsCodes _ _ _ hu).refSink_closed hs
    rcases alignIfAsked_eq_run ha with ⟨_, ha⟩ | ⟨hn, _⟩
    · rcases sinkTransact_cases ha with ⟨_, rfl⟩ | ⟨_, rfl⟩
      · rw [State.refSink_record_align isOpen]
        exact length_append_padding_mod _
      · simp at ht
    · exact absurd (asked.symm.trans hn) (by simp)

/-- Settles O51: an accepted ALIGN alone is `State.refSink_record_align`, one that ends a ROW is `row_aligned`. -/
theorem alignmentReachesAByteBoundary : Obligations.AlignmentReachesAByteBoundary := by
  refine ⟨fun s hp ha hs => ⟨s.record .alignToByteBoundary true, ?_, ?_⟩, fun s t => row_aligned⟩
  · rw [exec, execAlign, unlessError_of_ne hp, sinkAlign, sinkTransact_accepts (n := 0) ha]
    rfl
  · rw [State.refSink_record_align hs]
    exact ⟨rfl, rfl, length_append_padding_mod _⟩

end Sys2Proof.Machine
end

section
/-! The configuration registers WIDTH and CTRL (10_state R30, R31, 20_memory R80): what each operation and each access
does to them. -/

namespace Sys2Proof.Machine

open Sys2Proof

/-- Which operation may change WIDTH and BA, when, and to what. -/
structure ConfigRule (i : Instr) (s t : State) : Prop where
  width : t.width = s.width ∨ ((s.phase = .idle ∨ s.phase = .done) ∧ i = .wrWidth t.width)
  ba : t.ba = s.ba ∨ ((s.phase = .idle ∨ s.phase = .done) ∧ i = .wrCtrl t.ba)

theorem State.LineFrame.config {i : Instr} {s t : State} (h : s.LineFrame t) : ConfigRule i s t :=
  ⟨.inl h.width, .inl h.ba⟩

theorem HostEffect.config {i : Instr} {s t : State} (h : HostEffect i s t) : ConfigRule i s t := by
  cases h with
  | wrWidth w hp => exact ⟨.inr ⟨hp, rfl⟩, .inl rfl⟩
  | wrCtrl ba hp => exact ⟨.inl rfl, .inr ⟨hp, rfl⟩⟩
  | rowFails _ _ h => exact (encodeRow_coded h).frame.config
  | row _ _ h ha =>
    have coded := (encodeRow_coded h).frame
    have aligned := (alignIfAsked_coded ha).frame
    exact ⟨.inl (aligned.width.trans coded.width), .inl (aligned.ba.trans coded.ba)⟩
  | _ => exact ⟨.inl rfl, .inl rfl⟩

theorem exec_config {i : Instr} {s t : State} (h : exec i s = .next t) : ConfigRule i s t := by
  rcases exec_cases h with ⟨_, rfl⟩ | ⟨_, b, hc⟩ | ⟨v, rfl⟩ | hi
  · exact ⟨.inl rfl, .inl rfl⟩
  · exact hc.frame.config
  · exact ⟨.inl rfl, .inl rfl⟩
  · exact (hostOp_cases hi h).config

/-- Of the accesses without a row only a reset touches the configuration. -/
theorem AccessEffect.config {a : HostAccess} {s t : State} (h : AccessEffect a s t) :
    (t.width = s.width ∧ t.ba = s.ba) ∨
      (a = .hardwareReset ∨ ∃ offset data n, a = .resetDuring offset data n) := by
  cases h with
  | reset sent ha => exact .inr ha
  | _ => exact .inl ⟨rfl, rfl⟩

/-- Settles O58: `exec_config` for the operations, `AccessEffect.config` for the accesses without a row. -/
theorem configurationIsFixedInAPage : Obligations.ConfigurationIsFixedInAPage := by
  intro s t req rest hin h
  rcases step_cases hin h with ⟨i, hd, he⟩ | ⟨a, hd, ha⟩
  · have rule := exec_config he
    exact ⟨rule.width.imp_right fun ⟨hp, hi⟩ => .inl ⟨hp, hi ▸ hd⟩,
      rule.ba.imp_right fun ⟨hp, hi⟩ => .inl ⟨hp, hi ▸ hd⟩⟩
  · rcases (hostAccess_cases ha).config with ⟨hw, hb⟩ | hr
    · exact ⟨.inl hw, .inl hb⟩
    · exact ⟨.inr (.inr (isReset_of_decode hd hr)), .inr (.inr (isReset_of_decode hd hr))⟩

end Sys2Proof.Machine
end

section
/-! Bit strings in transmission order (30_encoding R91): `bitsOf` and `valueOf` undo each other, and the first bits
of a word are the high part of its value. -/

namespace Sys2Proof

/-- The last bit of a word is its lowest one. -/
theorem bitsOf_succ (len value : Nat) : bitsOf (len + 1) value = bitsOf len (value / 2) ++ [value.testBit 0] := by
  unfold bitsOf
  rw [List.range_succ, List.map_append]
  congr 1
  · refine List.map_congr_left fun k hk => ?_
    have hk := List.mem_range.1 hk
    rw [← Nat.testBit_add_one, show len + 1 - 1 - k = len - 1 - k + 1 by omega]
  · simp

@[simp] theorem length_bitsOf (len value : Nat) : (bitsOf len value).length = len := by
  simp [bitsOf]

theorem valueOf_append_bit (bits : List Bool) (b : Bool) : valueOf (bits ++ [b]) = 2 * valueOf bits + b.toNat := by
  simp [valueOf]

theorem valueOf_bitsOf (len value : Nat) : valueOf (bitsOf len value) = value % 2 ^ len := by
  induction len generalizing value with
  | zero => simp [bitsOf, valueOf, Nat.mod_one]
  | succ len ih =>
    rw [bitsOf_succ, valueOf_append_bit, ih, Nat.toNat_testBit, Nat.pow_succ', Nat.mod_mul, Nat.pow_zero, Nat.div_one,
      Nat.add_comm]

theorem bitsOf_valueOf (bits : List Bool) : bitsOf bits.length (valueOf bits) = bits := by
  induction bits using List.reverseRecOn with
  | nil => rfl
  | append_singleton bits b ih =>
    have half : (2 * valueOf bits + b.toNat) / 2 = valueOf bits := by cases b <;> simp; omega
    rw [List.length_append, List.length_singleton, bitsOf_succ, valueOf_append_bit, half, ih]
    cases b <;> simp

/-- The first bits of a word are the high bits of its value. -/
theorem take_bitsOf {l m : Nat} (h : l ≤ m) (value : Nat) :
    (bitsOf m value).take l = bitsOf l (value / 2 ^ (m - l)) := by
  unfold bitsOf
  rw [← List.map_take, List.take_range, Nat.min_eq_left h]
  refine List.map_congr_left fun k hk => ?_
  have hk := List.mem_range.1 hk
  rw [Nat.testBit_div_two_pow, show l - 1 - k + (m - l) = m - 1 - k by omega]

/-- A word whose bits begin another word is the high part of that word's value. -/
theorem eq_div_of_bitsOf_isPrefix {l v m w : Nat} (hv : v < 2 ^ l) (hw : w < 2 ^ m)
    (h : bitsOf l v <+: bitsOf m w) : l ≤ m ∧ v = w / 2 ^ (m - l) := by
  have hl : l ≤ m := by simpa using h.length_le
  refine ⟨hl, ?_⟩
  have same := List.prefix_iff_eq_take.1 h
  rw [length_bitsOf, take_bitsOf hl] at same
  have := congrArg valueOf same
  have small : w / 2 ^ (m - l) < 2 ^ l := by
    rwa [Nat.div_lt_iff_lt_mul (by positivity), ← Nat.pow_add, Nat.add_sub_cancel' hl]
  rwa [valueOf_bitsOf, valueOf_bitsOf, Nat.mod_eq_of_lt hv, Nat.mod_eq_of_lt small] at this

end Sys2Proof
end

section
/-! The code words as a set of bit strings (30_encoding R104, 40_code_tables R131): no word begins another of its
context, and a row carries the bits of its operation's own encoding. -/

namespace Sys2Proof.Machine

open Sys2Proof

/-- Two words, each a length and a value, differ after both are cut to the shorter length. Subtraction of lengths stops
at 0, so the shorter word is not cut. -/
abbrev WordsApart (l v m w : Nat) : Prop :=
  v / 2 ^ (l - m) ≠ w / 2 ^ (m - l)

/-- Words that differ within the shorter length do not begin each other. -/
theorem WordsApart.not_isPrefix {l v m w : Nat} (h : WordsApart l v m w) (hv : v < 2 ^ l) (hw : w < 2 ^ m) :
    ¬ bitsOf l v <+: bitsOf m w ∧ ¬ bitsOf m w <+: bitsOf l v := by
  constructor
  · intro hp
    obtain ⟨hl, hv⟩ := eq_div_of_bitsOf_isPrefix hv hw hp
    exact h (by rw [Nat.sub_eq_zero_of_le hl, ← hv]; simp)
  · intro hp
    obtain ⟨hl, hw⟩ := eq_div_of_bitsOf_isPrefix hw hv hp
    exact h (by rw [Nat.sub_eq_zero_of_le hl, ← hw]; simp)

theorem codeWords_value_lt {ctx : CodeContext} : ∀ r ∈ codeWords ctx, r.value < 2 ^ r.len := by
  cases ctx <;> decide

theorem codeWords_pairwise_apart (ctx : CodeContext) :
    (codeWords ctx).Pairwise fun a b => WordsApart a.len a.value b.len b.value := by
  cases ctx <;> decide +kernel

/-- Every code word but the terminator, which begins with it, differs from the end-of-line word (R104). -/
theorem codeWords_apart_endOfLine :
    ∀ r ∈ codeWords .white ++ codeWords .black ++ (codeWords .mode).take 9, WordsApart r.len r.value 12 1 := by
  decide +kernel

/-- A row stands in the table of the context its operation is encoded for, but for the extended makeup words, which are
encoded as white and stand in the black table too (log entry 22). -/
theorem codeWords_encode {ctx : CodeContext} : ∀ r ∈ codeWords ctx, r.instr.wellFormed = true ∧
    (encode r.instr = codeRequest ctx r.len r.value ∨ encode r.instr = codeRequest .white r.len r.value) := by
  cases ctx <;> decide +kernel

/-- A bit string that decodes is the word of a row: equal length and equal value make equal bits. -/
theorem decodeCode_eq_some {ctx : CodeContext} {bits : List Bool} {i : Instr} (h : decodeCode ctx bits = some i) :
    ∃ r ∈ codeWords ctx, r.instr = i ∧ bitsOf r.len r.value = bits := by
  unfold decodeCode findWord at h
  obtain ⟨r, hr, hi⟩ := Option.map_eq_some_iff.1 h
  have hkey := List.find?_some hr
  simp only [Bool.and_eq_true, beq_iff_eq] at hkey
  exact ⟨r, List.mem_of_find?_eq_some hr, hi, by rw [hkey.1, hkey.2, bitsOf_valueOf]⟩

theorem decode_code_eq_instr {ctx : CodeContext} {bits : List Bool} {i : Instr}
    (h : decode (.code ctx bits) = .instr i) : decodeCode ctx bits = some i := by
  simp only [decode] at h
  split at h
  · simp_all
  · simp at h

/-- The Kraft sum of a colour's run words, over `2 ^ 13` (R131). -/
theorem kraftSum_run (c : Colour) : ((codeWords (runContext c)).map fun r => 2 ^ (13 - r.len)).sum = 2 * 4080 := by
  cases c <;> decide

/-- Settles O9: on the values of the words, `WordsApart` is checked pair by pair, and then neither word begins the
other. -/
theorem codeWordsArePrefixFree : Obligations.CodeWordsArePrefixFree := by
  refine ⟨fun ctx => ?_, fun r hr => ?_, fun c => ⟨by cases c <;> rfl, kraftSum_run c⟩⟩
  · exact (codeWords_pairwise_apart ctx).imp_of_mem fun ha hb apart =>
      apart.not_isPrefix (codeWords_value_lt _ ha) (codeWords_value_lt _ hb)
  · have fits : r.value < 2 ^ r.len := by
      rcases List.mem_append.1 hr with hr | hr
      · exact (List.mem_append.1 hr).elim (codeWords_value_lt r) (codeWords_value_lt r)
      · exact codeWords_value_lt r (List.mem_of_mem_take hr)
    exact (codeWords_apart_endOfLine r hr).not_isPrefix fits (by decide)

/-- Settles O7: the bits are those of a row, and the row's operation is encoded by that row. -/
theorem decodedCodeWordsAreTheirEncoding : Obligations.DecodedCodeWordsAreTheirEncoding := by
  intro ctx bits i h
  obtain ⟨r, hr, rfl, rfl⟩ := decodeCode_eq_some (decode_code_eq_instr h)
  obtain ⟨wellFormed, own | shared⟩ := codeWords_encode r hr
  · exact ⟨wellFormed, ctx, own⟩
  · exact ⟨wellFormed, .white, shared⟩

end Sys2Proof.Machine
end

section
/-! What a host write decodes to (30_encoding R97, R98, R102), and the step of a write that is ignored. -/

namespace Sys2Proof.Machine

open Sys2Proof

/-- An offset of no writable register ignores the write (R33, R35, R36). -/
theorem decodeWrite_of_ignored {offset : Word} (data : Word) (h : offset.toNat ∉ [0x00, 0x04, 0x08, 0x10]) :
    decodeWrite offset data = .access .ignoredWrite := by
  simp only [List.mem_cons, List.not_mem_nil, or_false, not_or] at h
  obtain ⟨width, ctrl, cmd, pixin⟩ := h
  unfold decodeWrite
  split
  · exact absurd ‹_› width
  · exact absurd ‹_› ctrl
  · exact absurd ‹_› cmd
  · exact absurd ‹_› pixin
  · rfl

/-- The command code is the data word modulo 8 (R32, R97, R102). -/
theorem decodeCommand_eq (data : Word) : decodeCommand data =
    if data.toNat % 8 = 1 then .instr .init
    else if data.toNat % 8 = 2 then .instr .row
    else if data.toNat % 8 = 3 then .instr .eofbCmd
    else if data.toNat % 8 = 4 then .instr .clear
    else .access .reservedCommand := by
  have code : (data.setWidth 3).toNat = data.toNat % 8 := by simp
  unfold decodeCommand
  rw [code]
  split <;> simp_all

theorem getLsbD_zero_eq_mod (data : Word) : data.getLsbD 0 = (data.toNat % 2 == 1) := by
  rw [BitVec.getLsbD, Nat.testBit_zero]
  rfl

/-- Settles O10: one equation of the decoder per writable register, and `step_of_decode_access` for the other
offsets. -/
theorem registerWritesTakeOnlyTheirBits : Obligations.RegisterWritesTakeOnlyTheirBits := by
  refine ⟨fun data => rfl, fun data => ?_, fun data => ?_, decodeCommand_eq, fun offset data h => ?_⟩
  · show Decoded.instr (.wrCtrl (data.getLsbD 0)) = _
    rw [getLsbD_zero_eq_mod]
  · show Decoded.instr (.pix (Colour.ofBit (data.getLsbD 0))) = _
    rw [getLsbD_zero_eq_mod]
    simp [Colour.ofBit]
  · have ignored : decode (.hostWrite offset data) = .access .ignoredWrite := decodeWrite_of_ignored data h
    exact ⟨ignored, fun s rest hin => step_of_decode_access hin ignored⟩

end Sys2Proof.Machine
end

section
/-! The round trip through the encoder and the decoder, from its law for each constructor (30_encoding R107). -/

namespace Sys2Proof.Laws

open Sys2Proof

/-- The encoding of every operation decodes to it: one law per constructor. -/
theorem roundTrip (i : Instr) : RoundTrip.Statement i :=
  open RoundTrip in
  match i with
    | .p => p | .h => h | .v0 => v0 | .vr1 => vr1 | .vr2 => vr2 | .vr3 => vr3 | .vl1 => vl1 | .vl2 => vl2
    | .vl3 => vl3 | .wt0 => wt0 | .wt1 => wt1 | .wt2 => wt2 | .wt3 => wt3 | .wt4 => wt4 | .wt5 => wt5 | .wt6 => wt6
    | .wt7 => wt7 | .wt8 => wt8 | .wt9 => wt9 | .wt10 => wt10 | .wt11 => wt11 | .wt12 => wt12 | .wt13 => wt13
    | .wt14 => wt14 | .wt15 => wt15 | .wt16 => wt16 | .wt17 => wt17 | .wt18 => wt18 | .wt19 => wt19 | .wt20 => wt20
    | .wt21 => wt21 | .wt22 => wt22 | .wt23 => wt23 | .wt24 => wt24 | .wt25 => wt25 | .wt26 => wt26 | .wt27 => wt27
    | .wt28 => wt28 | .wt29 => wt29 | .wt30 => wt30 | .wt31 => wt31 | .wt32 => wt32 | .wt33 => wt33 | .wt34 => wt34
    | .wt35 => wt35 | .wt36 => wt36 | .wt37 => wt37 | .wt38 => wt38 | .wt39 => wt39 | .wt40 => wt40 | .wt41 => wt41
    | .wt42 => wt42 | .wt43 => wt43 | .wt44 => wt44 | .wt45 => wt45 | .wt46 => wt46 | .wt47 => wt47 | .wt48 => wt48
    | .wt49 => wt49 | .wt50 => wt50 | .wt51 => wt51 | .wt52 => wt52 | .wt53 => wt53 | .wt54 => wt54 | .wt55 => wt55
    | .wt56 => wt56 | .wt57 => wt57 | .wt58 => wt58 | .wt59 => wt59 | .wt60 => wt60 | .wt61 => wt61 | .wt62 => wt62
    | .wt63 => wt63 | .bt0 => bt0 | .bt1 => bt1 | .bt2 => bt2 | .bt3 => bt3 | .bt4 => bt4 | .bt5 => bt5 | .bt6 => bt6
    | .bt7 => bt7 | .bt8 => bt8 | .bt9 => bt9 | .bt10 => bt10 | .bt11 => bt11 | .bt12 => bt12 | .bt13 => bt13
    | .bt14 => bt14 | .bt15 => bt15 | .bt16 => bt16 | .bt17 => bt17 | .bt18 => bt18 | .bt19 => bt19 | .bt20 => bt20
    | .bt21 => bt21 | .bt22 => bt22 | .bt23 => bt23 | .bt24 => bt24 | .bt25 => bt25 | .bt26 => bt26 | .bt27 => bt27
    | .bt28 => bt28 | .bt29 => bt29 | .bt30 => bt30 | .bt31 => bt31 | .bt32 => bt32 | .bt33 => bt33 | .bt34 => bt34
    | .bt35 => bt35 | .bt36 => bt36 | .bt37 => bt37 | .bt38 => bt38 | .bt39 => bt39 | .bt40 => bt40 | .bt41 => bt41
    | .bt42 => bt42 | .bt43 => bt43 | .bt44 => bt44 | .bt45 => bt45 | .bt46 => bt46 | .bt47 => bt47 | .bt48 => bt48
    | .bt49 => bt49 | .bt50 => bt50 | .bt51 => bt51 | .bt52 => bt52 | .bt53 => bt53 | .bt54 => bt54 | .bt55 => bt55
    | .bt56 => bt56 | .bt57 => bt57 | .bt58 => bt58 | .bt59 => bt59 | .bt60 => bt60 | .bt61 => bt61 | .bt62 => bt62
    | .bt63 => bt63 | .wm64 => wm64 | .wm128 => wm128 | .wm192 => wm192 | .wm256 => wm256 | .wm320 => wm320
    | .wm384 => wm384 | .wm448 => wm448 | .wm512 => wm512 | .wm576 => wm576 | .wm640 => wm640 | .wm704 => wm704
    | .wm768 => wm768 | .wm832 => wm832 | .wm896 => wm896 | .wm960 => wm960 | .wm1024 => wm1024 | .wm1088 => wm1088
    | .wm1152 => wm1152 | .wm1216 => wm1216 | .wm1280 => wm1280 | .wm1344 => wm1344 | .wm1408 => wm1408
    | .wm1472 => wm1472 | .wm1536 => wm1536 | .wm1600 => wm1600 | .wm1664 => wm1664 | .wm1728 => wm1728
    | .bm64 => bm64 | .bm128 => bm128 | .bm192 => bm192 | .bm256 => bm256 | .bm320 => bm320 | .bm384 => bm384
    | .bm448 => bm448 | .bm512 => bm512 | .bm576 => bm576 | .bm640 => bm640 | .bm704 => bm704 | .bm768 => bm768
    | .bm832 => bm832 | .bm896 => bm896 | .bm960 => bm960 | .bm1024 => bm1024 | .bm1088 => bm1088 | .bm1152 => bm1152
    | .bm1216 => bm1216 | .bm1280 => bm1280 | .bm1344 => bm1344 | .bm1408 => bm1408 | .bm1472 => bm1472
    | .bm1536 => bm1536 | .bm1600 => bm1600 | .bm1664 => bm1664 | .bm1728 => bm1728 | .xm1792 => xm1792
    | .xm1856 => xm1856 | .xm1920 => xm1920 | .xm1984 => xm1984 | .xm2048 => xm2048 | .xm2112 => xm2112
    | .xm2176 => xm2176 | .xm2240 => xm2240 | .xm2304 => xm2304 | .xm2368 => xm2368 | .xm2432 => xm2432
    | .xm2496 => xm2496 | .xm2560 => xm2560 | .eofb => eofb | .align => align | .final => final | .init => init
    | .row => row | .eofbCmd => eofbCmd | .clear => clear | .wrWidth w => wrWidth w | .wrCtrl ba => wrCtrl ba
    | .pix c => pix c | .rdStatus => rdStatus | .rdLoadcnt => rdLoadcnt | .scan l n s => scan l n s
    | .rowenc => rowenc | .run n c => run n c | .emit s => emit s | .lookupMode s => lookupMode s
    | .lookupTerm c r => lookupTerm c r | .lookupMakeup c q => lookupMakeup c q

/-- Settles O6: the decoder reads back every constructor's encoding. -/
theorem everyWellFormedInstructionRoundTrips : Obligations.EveryWellFormedInstructionRoundTrips :=
  roundTrip

/-- Settles O8: most of the words are the encoding of their operation, which decodes to it. -/
theorem writtenOutWordsDecode : Obligations.WrittenOutWordsDecode :=
  ⟨RoundTrip.p rfl, RoundTrip.vl1 rfl, RoundTrip.wt0 rfl, RoundTrip.bt2 rfl,
    RoundTrip.wm64 rfl, RoundTrip.bm64 rfl, by decide,
    Machine.decodeCommand_eq 0xFFFFFFF9, rfl, rfl, RoundTrip.rdStatus rfl⟩

end Sys2Proof.Laws
end

section
/-! The first transaction of a code word, ALIGN and FINAL (30_encoding R91, R105), where the sink accepts it. -/

namespace Sys2Proof.Machine

open Sys2Proof

/-- Settles O19: each of the three is one gated transaction, which the script accepts. -/
theorem terminatorAlignAndFinalizeAreSent : Obligations.TerminatorAlignAndFinalizeAreSent := by
  intro s hp ha
  have sent (tx : SinkTx) : unlessError (sinkTransact tx) s = .next (s.record tx true) := by
    rw [unlessError_of_ne hp, sinkTransact_accepts (n := 0) ha, Flow.run_outcome]
  exact ⟨sent (.writeCode eofbCode), sent .alignToByteBoundary, sent .finalize⟩

/-- Settles O21: the operation issues `tx` first, the script accepts it, and what follows only adds to the log. -/
theorem emittedCodeIsTheEncodedWord : Obligations.EmittedCodeIsTheEncodedWord := by
  intro i tx s t hi hp ha h
  obtain ⟨rest, hexec, hcoded⟩ := sendsFirst_spec hi
  rw [hexec, unlessError_of_ne hp, sinkTransact_accepts (n := 0) ha, Flow.run_false_andThen] at h
  obtain ⟨b, hrun⟩ := Flow.outcome_eq_next h
  have later : (s.record tx true).sinkLog <+: t.sinkLog := (hcoded _ _ _ hrun).frame.sink
  simpa using later

end Sys2Proof.Machine
end

section
/-! The reserved addresses of the ROM (30_encoding R96, R101): an address is refused exactly past the end of the table
it selects. -/

namespace Sys2Proof.Machine

open Sys2Proof

/-- A refusal is a word of length 0 (R101). -/
theorem romRead_eq_reserved_iff_len {addr : BitVec 9} :
    romRead addr = .error .reservedRomAddress ↔ (romCode (romWord addr)).len = 0 := by
  unfold romRead
  split <;> simp_all

theorem romTable_len_ne_zero {mt col mk : Bool} :
    ∀ w ∈ romTable mt col mk, (romCode (BitVec.ofNat 17 w)).len ≠ 0 := by
  cases mt <;> cases col <;> cases mk <;> decide

/-- The word at an address has length 0 exactly past the end of the table the address selects. -/
theorem romWord_len_eq_zero_iff (addr : BitVec 9) : (romCode (romWord addr)).len = 0 ↔
    (romTable (addr.getLsbD 8) (addr.getLsbD 7) (addr.getLsbD 6)).length ≤ addr.toNat % 64 := by
  have index : (addr.setWidth 6).toNat = addr.toNat % 64 := by simp
  simp only [romWord, index]
  rcases Nat.lt_or_ge (addr.toNat % 64)
    (romTable (addr.getLsbD 8) (addr.getLsbD 7) (addr.getLsbD 6)).length with inside | outside
  · rw [List.getElem?_eq_getElem inside, Option.getD_some]
    exact iff_of_false (romTable_len_ne_zero _ (List.getElem_mem inside)) (Nat.not_le.2 inside)
  · rw [List.getElem?_eq_none outside]
    exact iff_of_true rfl outside

theorem length_romTable (mt col mk : Bool) : (romTable mt col mk).length =
    if mt then (if col || mk then 0 else 9) else if mk then 40 else 64 := by
  cases mt <;> cases col <;> cases mk <;> rfl

/-- An address is its bits MT, COL, MK and its index field (R96). -/
theorem toNat_eq_romFields (addr : BitVec 9) : addr.toNat =
    256 * (addr.getLsbD 8).toNat + 128 * (addr.getLsbD 7).toNat + 64 * (addr.getLsbD 6).toNat + addr.toNat % 64 := by
  have := addr.isLt
  simp only [BitVec.getLsbD, Nat.toNat_testBit]
  omega

/-- The reserved ROM addresses (30_encoding R101). -/
abbrev ReservedAddress (a : Nat) : Prop :=
  (0x068 ≤ a ∧ a ≤ 0x07F) ∨ (0x0E8 ≤ a ∧ a ≤ 0x0FF) ∨ 0x109 ≤ a

/-- Exactly the reserved addresses are refused: in each table selected by MT, COL and MK, those past its end. -/
theorem romRead_eq_reserved_iff (addr : BitVec 9) :
    romRead addr = .error .reservedRomAddress ↔ ReservedAddress addr.toNat := by
  rw [romRead_eq_reserved_iff_len, romWord_len_eq_zero_iff, length_romTable]
  have fields := toNat_eq_romFields addr
  have index : addr.toNat % 64 < 64 := Nat.mod_lt _ (by decide)
  generalize addr.getLsbD 8 = mt, addr.getLsbD 7 = col, addr.getLsbD 6 = mk at *
  cases mt <;> cases col <;> cases mk <;> simp at fields ⊢ <;> omega

theorem romRead_isOk_iff (addr : BitVec 9) : (romRead addr).isOk = true ↔ ¬ ReservedAddress addr.toNat := by
  rw [← romRead_eq_reserved_iff]
  unfold romRead
  split <;> simp [Except.isOk, Except.toBool]

/-- 217 of the 512 addresses are defined (R101). -/
theorem countP_isOk_romRead : ((List.range 512).countP fun a => (romRead (BitVec.ofNat 9 a)).isOk) = 217 := by
  have defined : ∀ a ∈ List.range 512,
      ((romRead (BitVec.ofNat 9 a)).isOk = true ↔ decide (¬ ReservedAddress a) = true) := by
    intro a ha
    rw [romRead_isOk_iff, BitVec.toNat_ofNat, Nat.mod_eq_of_lt (List.mem_range.1 ha), decide_eq_true_iff]
  rw [List.countP_congr defined]
  decide +kernel

theorem toNat_modeAddr (sym : BitVec 6) : (modeAddr sym).toNat = 0x100 + sym.toNat := by
  revert sym
  decide

/-- The quotient 0 takes the index 63. -/
theorem toNat_makeupAddr (c : Colour) (quot : BitVec 6) :
    (makeupAddr c quot).toNat = (if c = .black then 0x80 else 0) + 0x40 + (quot.toNat + 63) % 64 := by
  revert quot
  cases c <;> decide

theorem romRead_modeAddr_reserved {sym : BitVec 6} (h : 8 < sym.toNat) :
    romRead (modeAddr sym) = .error .reservedRomAddress := by
  rw [romRead_eq_reserved_iff, toNat_modeAddr]
  omega

theorem romRead_makeupAddr_reserved {c : Colour} {quot : BitVec 6} (h : quot.toNat = 0 ∨ 40 < quot.toNat) :
    romRead (makeupAddr c quot) = .error .reservedRomAddress := by
  rw [romRead_eq_reserved_iff, toNat_makeupAddr]
  have := quot.isLt
  split
  · omega
  · omega

/-- Settles O12: `romRead_eq_reserved_iff` at an address, at the address of a mode symbol, and at that of a
makeup quotient. -/
theorem reservedRomAddressesAreRefused : Obligations.ReservedRomAddressesAreRefused := by
  refine ⟨romRead_eq_reserved_iff, countP_isOk_romRead, fun s sym h => ?_, fun s c quot h => ?_,
    fun s sym hp h => ?_⟩
  · simp [exec, execLookupMode, romRead_modeAddr_reserved h, Except.map, giveOr]
  · simp [exec, execLookupMakeup, romRead_makeupAddr_reserved h, Except.map, giveOr]
  · rw [exec, execEmit, unlessError_of_ne hp]
    simp [emitSymbol, sendFrom, romRead_modeAddr_reserved h, Flow.outcome]

end Sys2Proof.Machine
end

section
/-! The code tables as the lookups and RUN read them (40_code_tables R121 to R123, R132, 43_run_length_emitter R186). -/

namespace Sys2Proof.Machine

open Sys2Proof

/-- A lookup that finds a code returns it and changes nothing else. -/
theorem giveOr_code {e : Except Refusal Code} {k : Code} (h : e = .ok k) (s : State) :
    giveOr (e.map .code) s = .next { s with result := .code k } := by
  rw [h]
  rfl

/-- Settles O11: each lookup reads the word of its row from the ROM, and `giveOr` hands it out. -/
theorem lookupsReturnTheCodeWords : Obligations.LookupsReturnTheCodeWords := by
  refine ⟨fun s sym h => ?_, fun s c rem => ?_, fun s c quot h1 h2 => ?_⟩
  · obtain ⟨k, hread, hword⟩ := romRead_mode sym h
    exact ⟨k, hword, giveOr_code hread s⟩
  · obtain ⟨k, hread, hword⟩ := romRead_term c rem
    exact ⟨k, hword, giveOr_code hread s⟩
  · obtain ⟨k, hread, hword⟩ := romRead_makeup c quot h1 h2
    exact ⟨k, hword, giveOr_code hread s⟩

/-- The length of the code word in row `k` of a colour's list, 0 where there is none. -/
def rowBits (c : Colour) (k : Nat) : Nat :=
  totalBits (wordAt (runContext c) k).toList

/-- The bits of the makeup step for the quotient `q`: none for 0 (43 R182). -/
def makeupBits (c : Colour) (q : Nat) : Nat :=
  if q = 0 then 0 else rowBits c (63 + q)

/-- The bit length of a run is its makeup code's and its terminating code's (R186). -/
theorem totalBits_runCodes (n : Nat) (c : Colour) :
    totalBits (runCodes n c) = makeupBits c (n / 64) + rowBits c (n % 64) := by
  unfold runCodes makeupBits rowBits
  split <;> simp [totalBits]

/-- Summed over `m` whole blocks of `d`, a quotient's share counts `d` times and a remainder's `m` times. -/
theorem sum_range_mul_div_add_mod (f g : Nat → Nat) {d : Nat} (hd : 0 < d) (m : Nat) :
    ((List.range (d * m)).map fun n => f (n / d) + g (n % d)).sum =
      d * ((List.range m).map f).sum + m * ((List.range d).map g).sum := by
  induction m with
  | zero => simp
  | succ m ih =>
    have block : ((List.range d).map fun r => f ((d * m + r) / d) + g ((d * m + r) % d)) =
        (List.range d).map fun r => f m + g r := by
      refine List.map_congr_left fun r hr => ?_
      have hr : r < d := List.mem_range.1 hr
      rw [Nat.mul_add_div hd, Nat.div_eq_of_lt hr, Nat.add_zero, Nat.mul_add_mod, Nat.mod_eq_of_lt hr]
    rw [Nat.mul_succ, List.range_add, List.map_append, List.sum_append, ih, List.map_map]
    simp only [Function.comp_def, block, List.sum_map_add, List.sum_range_succ, List.map_const', List.sum_replicate,
      List.length_range, smul_eq_mul]
    ring

/-- The bits of the runs 0..1728, from the two sums over the tables: 27 blocks of 64 runs, and the run 1728. -/
theorem sum_totalBits_runCodes (c : Colour) :
    ((List.range 1729).map fun n => totalBits (runCodes n c)).sum =
      64 * ((List.range 27).map (makeupBits c)).sum + 27 * ((List.range 64).map (rowBits c)).sum +
        (makeupBits c 27 + rowBits c 0) := by
  simp only [totalBits_runCodes, show 1729 = 64 * 27 + 1 from rfl]
  rw [List.sum_range_succ, sum_range_mul_div_add_mod _ _ (by decide)]

/-- All 64 terminating codes of each colour together (R132). -/
theorem sum_rowBits_term :
    ((List.range 64).map (rowBits .white)).sum = 451 ∧ ((List.range 64).map (rowBits .black)).sum = 654 := by
  decide

/-- The makeup codes for 64..1664 of each colour together (R132). -/
theorem sum_makeupBits :
    ((List.range 27).map (makeupBits .white)).sum = 212 ∧ ((List.range 27).map (makeupBits .black)).sum = 329 := by
  decide

/-- A multiple of 64 costs its makeup code and then what a run of 0 costs, the terminating code for 0 (43 R183). -/
theorem runCodes_mul_64 (c : Colour) {q : Nat} {k : Code} (hq : q ≠ 0)
    (hk : wordAt (runContext c) (63 + q) = some k) : runCodes (64 * q) c = k :: runCodes 0 c := by
  simp [runCodes, hq, hk]

/-- Settles O13: the totals of `sum_totalBits_runCodes` with the two tables' sums put in, and `runCodes_mul_64`. -/
theorem runBitLengthsMatchTheStandard : Obligations.RunBitLengthsMatchTheStandard := by
  obtain ⟨whiteTerm, blackTerm⟩ := sum_rowBits_term
  obtain ⟨whiteMakeup, blackMakeup⟩ := sum_makeupBits
  refine ⟨?_, ?_, fun c q hq => ?_⟩
  · rw [sum_totalBits_runCodes, whiteTerm, whiteMakeup]
    decide
  · rw [sum_totalBits_runCodes, blackTerm, blackMakeup]
    decide
  · obtain ⟨hpos, hle⟩ := List.mem_range'_1.1 hq
    obtain ⟨k, hk⟩ := wordAt_isSome c (k := 63 + q) (by omega)
    exact ⟨k, hk, runCodes_mul_64 c (by omega) hk⟩

end Sys2Proof.Machine
end

section
/-! The scanner: one scan, the scans of a whole line, and the reads outside its contract (41_scanner R141 to R144). -/

namespace Sys2Proof.Machine

open Sys2Proof

theorem eq_black_of_ne_white {c : Colour} (h : c ≠ .white) : c = .black := by
  cases c with
  | white => exact absurd rfl h
  | black => rfl

theorem eq_white_of_ne_black {c : Colour} (h : c ≠ .black) : c = .white := by
  cases c with
  | white => rfl
  | black => exact absurd rfl h

/-- The colour a pixel read answers is the pixel's. -/
theorem readPixel_colour {l : Buffer} {i : Nat} {s : State} {c : Colour} (h : readPixel l i s = .ok c) :
    c = (s.buffer l).pixel i := by
  obtain ⟨_, _, hc⟩ := readPixel_eq_ok h
  exact hc

section
variable {l : Buffer} {n j : Nat} {s : State}

/-- What a scan has found, in the pixels of the buffer: the pixels passed have the colour at the start, the one it
stopped at has not. -/
theorem Found.pixels {start : Int} (h : Found l n start s j) (hs : start < n) :
    ∃ c, ((start = -1 ∧ c = .white) ∨ (0 ≤ start ∧ c = (s.buffer l).pixel start.toNat)) ∧
      (∀ k : Nat, start ≤ k → k < j → (s.buffer l).pixel k = c) ∧ (j < n → (s.buffer l).pixel j ≠ c) := by
  rcases h with ⟨hge, _⟩ | ⟨_, c, hc, _, _, hrun, hstop⟩
  · omega
  · refine ⟨c, hc.imp_right fun ⟨h0, hr⟩ => ⟨h0, readPixel_colour hr⟩,
      fun k hk hkj => (readPixel_colour (hrun k hk hkj)).symm, fun hj => ?_⟩
    obtain ⟨d, hd, hdc⟩ := hstop hj
    rwa [← readPixel_colour hd]

/-- At the virtual start -1 the colour is WHITE (R142). -/
theorem Found.of_virtual (h : Found l n (-1) s j) :
    (∀ k < j, (s.buffer l).pixel k = .white) ∧ (j < n → (s.buffer l).pixel j = .black) := by
  obtain ⟨c, hc, hrun, hstop⟩ := h.pixels (by omega)
  obtain ⟨_, rfl⟩ | ⟨h0, _⟩ := hc
  · exact ⟨fun k hk => hrun k (by omega) hk, fun hj => eq_black_of_ne_white (hstop hj)⟩
  · omega

theorem Found.of_pixel {i : Nat} (h : Found l n i s j) (hi : i < n) :
    (∀ k, i ≤ k → k < j → (s.buffer l).pixel k = (s.buffer l).pixel i) ∧
      (j < n → (s.buffer l).pixel j ≠ (s.buffer l).pixel i) := by
  obtain ⟨c, hc, hrun, hstop⟩ := h.pixels (by omega)
  obtain ⟨h0, _⟩ | ⟨_, rfl⟩ := hc
  · omega
  · exact ⟨fun k hk => hrun k (by omega), hstop⟩

theorem Found.eq_end {start : Int} (h : Found l n start s j) (hs : (n : Int) ≤ start) : j = n := by
  rcases h with ⟨_, hj⟩ | ⟨hlt, _⟩
  · exact hj
  · omega

end

/-- Settles O14: the scan answers by `scanLine_total`, and what it answers is `Found`, read from the virtual start or
from a pixel. -/
theorem scanFindsTheNextChange : Obligations.ScanFindsTheNextChange := by
  intro l n start s hstart hn hw
  obtain ⟨j, hj⟩ := scanLine_total (l := l) hstart hn hw
  have found : Found l n.toNat start.toInt s j := (scanLine_eq_ok hj).2
  refine ⟨j, ?_, found.eq_end, fun hlt => ⟨found.lt hlt, found.le, fun hv => ?_, fun h0 => ?_⟩⟩
  · simp only [exec, execScan, hj]
    rfl
  · rw [hv] at found
    exact found.of_virtual
  · obtain ⟨i, hi⟩ := Int.eq_ofNat_of_zero_le h0
    rw [hi] at found hlt ⊢
    simpa using found.of_pixel (by omega)

/-! ### The scans of a whole line -/

/-- The index a scan answers; a refused one counts as the end. -/
def nextChange (l : Buffer) (n : Nat) (start : Int) (s : State) : Nat :=
  (scanLine l n start s).toOption.getD n

/-- `j(0) = SCAN(L, n, -1)`, `j(k+1) = SCAN(L, n, j(k))` (R143). -/
def changes (l : Buffer) (n : Nat) (s : State) : Nat → Nat
  | 0 => nextChange l n (-1) s
  | k + 1 => nextChange l n (changes l n s k) s

theorem scanLine_eq_nextChange {l : Buffer} {n : Nat} {start : Int} {s : State} (h : -1 ≤ start) (hn : n ≤ s.w)
    (hw : s.w ≤ Config.wMax) : scanLine l n start s = .ok (nextChange l n start s) := by
  obtain ⟨j, hj⟩ := scanLine_total (l := l) h hn hw
  rw [nextChange, hj]
  rfl

section
variable {l : Buffer} {n : Nat} {s : State} (hn : n ≤ s.w) (hw : s.w ≤ Config.wMax)
include hn hw

theorem scanLine_changes_zero : scanLine l n (-1) s = .ok (changes l n s 0) :=
  scanLine_eq_nextChange le_rfl hn hw

theorem scanLine_changes_succ (k : Nat) : scanLine l n (changes l n s k) s = .ok (changes l n s (k + 1)) :=
  scanLine_eq_nextChange (by omega) hn hw

theorem found_changes_zero : Found l n (-1) s (changes l n s 0) :=
  (scanLine_eq_ok (scanLine_changes_zero hn hw)).2

theorem found_changes_succ (k : Nat) : Found l n (changes l n s k) s (changes l n s (k + 1)) :=
  (scanLine_eq_ok (scanLine_changes_succ hn hw k)).2

theorem changes_le : ∀ k, changes l n s k ≤ n
  | 0 => (found_changes_zero hn hw).le
  | k + 1 => (found_changes_succ hn hw k).le

theorem changes_lt_succ {k : Nat} (hk : changes l n s k < n) : changes l n s k < changes l n s (k + 1) :=
  Int.ofNat_lt.1 ((found_changes_succ hn hw k).lt (Int.ofNat_lt.2 hk))

/-- Indices that rise strictly below the end come to the end: the first scan that answers it. -/
theorem exists_changes_eq_end : ∃ m, changes l n s m = n ∧ ∀ k < m, changes l n s k < n := by
  have reaches : ∃ m, changes l n s m = n := by
    by_contra! never
    have below (k : Nat) : changes l n s k < n := lt_of_le_of_ne (changes_le hn hw k) (never k)
    have rising : StrictMono (changes l n s) := strictMono_nat_of_lt_succ fun k => changes_lt_succ hn hw (below k)
    exact absurd rising.le_apply (Nat.not_le.2 (below n))
  exact ⟨Nat.find reaches, Nat.find_spec reaches,
    fun k hk => lt_of_le_of_ne (changes_le hn hw k) (Nat.find_min reaches hk)⟩

/-- Each run of pixels between two changes has the other colour than the run before it; the first one is BLACK. -/
theorem pixel_changes : ∀ k, changes l n s k < n →
    (s.buffer l).pixel (changes l n s k) = if k % 2 = 0 then .black else .white
  | 0, h => (found_changes_zero hn hw).of_virtual.2 h
  | k + 1, h => by
    have inside : changes l n s k < n := (changes_le hn hw k).lt_of_ne fun heq => by
      have := (found_changes_succ (l := l) hn hw k).eq_end (by omega)
      omega
    have differs := ((found_changes_succ hn hw k).of_pixel inside).2 h
    rw [pixel_changes k inside] at differs
    rcases Nat.mod_two_eq_zero_or_one k with even | odd
    · rw [if_pos even] at differs
      rw [if_neg (by omega), eq_white_of_ne_black differs]
    · rw [if_neg (by omega)] at differs
      rw [if_pos (by omega), eq_black_of_ne_white differs]

end

/-- Settles O15: `changes` up to the first scan that answers the end; a black first pixel is not passed by the scan from
the virtual start, which passes WHITE pixels alone. -/
theorem repeatedScansPartitionTheLine : Obligations.RepeatedScansPartitionTheLine := by
  intro l n s hn hw
  obtain ⟨m, hend, inside⟩ := exists_changes_eq_end (l := l) hn hw
  have white : ∀ i < changes l n s 0, (s.buffer l).pixel i = .white := (found_changes_zero hn hw).of_virtual.1
  refine ⟨m, changes l n s, scanLine_changes_zero hn hw, hend,
    fun k hk => ⟨inside k hk, changes_lt_succ hn hw (inside k hk), scanLine_changes_succ hn hw k⟩, white,
    fun k hk => ((found_changes_succ hn hw k).of_pixel (inside k hk)).1,
    fun k hk => pixel_changes hn hw k (inside k hk), fun _ black => ?_⟩
  by_contra hne
  rw [white 0 (Nat.pos_of_ne_zero hne)] at black
  exact absurd black (by decide)

/-! ### Outside the contract -/

theorem scanLine_below_virtual {start : Int} (h : start < -1) (l : Buffer) (n : Nat) (s : State) :
    scanLine l n start s = .error .scanStartBelowVirtual :=
  if_pos h

theorem readPixel_outside {l : Buffer} {i : Nat} {s : State} (h : s.w ≤ i ∨ Config.wMax ≤ i) :
    readPixel l i s = .error .pixelOutOfRange :=
  if_neg (by omega)

/-- Settles O16: the refused scan is what `giveOr` passes on. -/
theorem readsOutsideTheContractAreRefused : Obligations.ReadsOutsideTheContractAreRefused := by
  refine ⟨fun l n start s h => ?_, fun l i s => readPixel_outside⟩
  simp only [exec, execScan, scanLine_below_virtual h]
  rfl

end Sys2Proof.Machine
end

section
/-! The coding position (42_mode_selector R165, R169): where the detected elements lie, where each mode and one
iteration of the row loop move A0 to, and the loop invariant of ROWENC. -/

namespace Sys2Proof.Machine

open Sys2Proof

/-! ### Indices on the line as register values -/

theorem State.w_lt (s : State) : s.w < 2 ^ 12 := s.width.isLt

theorem State.width_eq_ofNat (s : State) : s.width = BitVec.ofNat 12 s.w := by simp [State.w]

/-- An index on the line fits the 12 bits of the changing elements. -/
theorem State.toNat_ofNat_of_le {s : State} {j : Nat} (h : j ≤ s.w) : (BitVec.ofNat 12 j).toNat = j := by
  rw [BitVec.toNat_ofNat, Nat.mod_eq_of_lt (lt_of_le_of_lt h s.w_lt)]

/-- Moved to A0 an index on the line is that index. -/
theorem State.toInt_setWidth_ofNat_of_le {s : State} {j : Nat} (h : j ≤ s.w) :
    ((BitVec.ofNat 12 j).setWidth 13).toInt = j := by
  rw [toInt_setWidth_13, State.toNat_ofNat_of_le h]

/-- Widened to the 13 bits of A0 an index on the line is written as itself. -/
theorem State.setWidth_ofNat_of_le {s : State} {j : Nat} (h : j ≤ s.w) :
    (BitVec.ofNat 12 j).setWidth 13 = BitVec.ofNat 13 j := by
  refine BitVec.eq_of_toNat_eq ?_
  have := s.w_lt
  rw [BitVec.toNat_setWidth, State.toNat_ofNat_of_le h, BitVec.toNat_ofNat]

/-- A coding position that is not negative reads as the natural number of its bits. -/
theorem toNat_toInt_of_nonneg {x : BitVec 13} (h : 0 ≤ x.toInt) : x.toInt.toNat = x.toNat := by
  have := x.isLt
  rw [BitVec.toInt_eq_toNat_cond] at h ⊢
  split at h <;> omega

/-! ### Colours -/

theorem opp_eq_ite (c : Colour) : opp c = if c = .white then .black else .white := by cases c <;> rfl

theorem opp_ne (c : Colour) : opp c ≠ c := by cases c <;> decide

theorem eq_opp_iff_ne {c d : Colour} : d = opp c ↔ d ≠ c := by cases c <;> cases d <;> decide

/-- Two colours that both differ from a third are the same. -/
theorem colour_eq_of_ne {a b c : Colour} (ha : a ≠ c) (hb : b ≠ c) : a = b :=
  (eq_opp_iff_ne.2 ha).trans (eq_opp_iff_ne.2 hb).symm

/-! ### The reference elements -/

/-- `b` is the first changing element of REF right of A0 with the colour opposite to A0C, or the end of the line where
there is none (42 R152). -/
structure FirstOpposite (s : State) (b : Nat) : Prop where
  right : s.a0.toInt < b
  le : b ≤ s.w
  colour : b < s.w → s.ref.pixel b ≠ s.a0c
  changing : b < s.w → s.ref.pixel b ≠ s.ref.leftColour b
  first : ∀ k : Nat, s.a0.toInt < k → k < b → s.ref.pixel k = s.a0c ∨ s.ref.pixel k = s.ref.leftColour k

section
variable {l : Buffer} {n j : Nat} {start : Int} {s : State}

/-- The colour left of a pixel right of a scan's start is that of a pixel the scan passed, or WHITE before the line. -/
theorem leftColour_of_pixels {c : Colour} {k : Nat} (hk : start < k)
    (hc : (start = -1 ∧ c = .white) ∨ 0 ≤ start)
    (hrun : ∀ i : Nat, start ≤ i → i < k → (s.buffer l).pixel i = c) : (s.buffer l).leftColour k = c := by
  cases k with
  | zero =>
    obtain ⟨_, rfl⟩ | h0 := hc
    · rfl
    · omega
  | succ i => exact hrun i (by omega) (by omega)

/-- Between its start and its answer a scan passes no changing element (41_scanner R142). -/
theorem Found.eq_leftColour (h : Found l n start s j) (hs : start < n) {k : Nat} (hk : start < k) (hkj : k < j) :
    (s.buffer l).pixel k = (s.buffer l).leftColour k := by
  obtain ⟨c, hc, hrun, _⟩ := h.pixels hs
  rw [leftColour_of_pixels hk (hc.imp_right fun h => h.1) fun i hi hik => hrun i hi (by omega),
    hrun k (by omega) hkj]

/-- A scan that answers inside the line answers a changing element. -/
theorem Found.ne_leftColour (h : Found l n start s j) (hs : start < n) (hj : j < n) :
    (s.buffer l).pixel j ≠ (s.buffer l).leftColour j := by
  obtain ⟨c, hc, hrun, hstop⟩ := h.pixels hs
  rw [leftColour_of_pixels (h.lt hs) (hc.imp_right fun h => h.1) hrun]
  exact hstop hj

end

/-- The position B1 is taken from is where R152 puts it. -/
theorem firstOpposite_of_findB1 {s : State} {b : Nat} (ha : s.a0.toInt < s.w) (h : findB1 s = .ok b) :
    FirstOpposite s b := by
  unfold findB1 at h
  split at h
  · simp at h
  · rename_i j hj
    have found : Found .ref s.w s.a0.toInt s j := (scanLine_eq_ok hj).2
    have first (k : Nat) (hk : s.a0.toInt < k) (hkj : k < j) : s.ref.pixel k = s.ref.leftColour k :=
      found.eq_leftColour ha hk hkj
    split at h
    · cases h
      exact ⟨found.lt ha, found.le, by omega, by omega, fun k hk hkb => .inr (first k hk hkb)⟩
    · have inside : j < s.w := lt_of_le_of_ne found.le ‹_›
      split at h
      · simp at h
      · rename_i c hc
        have colour : c = s.ref.pixel j := readPixel_colour hc
        split at h
        · cases h
          exact ⟨found.lt ha, found.le, fun _ => colour ▸ eq_opp_iff_ne.1 ‹_›, found.ne_leftColour ha,
            fun k hk hkb => .inr (first k hk hkb)⟩
        · have same : s.ref.pixel j = s.a0c := colour ▸ by simpa [eq_opp_iff_ne] using ‹¬c = opp s.a0c›
          have next : Found .ref s.w j s b := (scanLine_eq_ok h).2
          have right : j < b := Int.ofNat_lt.1 (next.lt (by omega))
          refine ⟨by have := found.lt ha; omega, next.le, fun hb => same ▸ (next.of_pixel inside).2 hb,
            next.ne_leftColour (by omega), fun k hk hkb => ?_⟩
          rcases Nat.lt_trichotomy k j with hlt | rfl | hgt
          · exact .inr (first k hk hlt)
          · exact .inl same
          · exact .inr (next.eq_leftColour (by omega) (by omega) hkb)

theorem findB1_total {s : State} (ha : -1 ≤ s.a0.toInt) (hw : s.w ≤ Config.wMax) : ∃ b, findB1 s = .ok b := by
  obtain ⟨j, hj⟩ := scanLine_total (l := .ref) ha le_rfl hw
  unfold findB1
  simp only [hj]
  split
  · exact ⟨j, rfl⟩
  · rw [readPixel_of_lt (lt_of_le_of_ne (scanLine_eq_ok hj).2.le ‹_›) hw]
    simp only
    split
    · exact ⟨j, rfl⟩
    · exact scanLine_total (by omega) le_rfl hw

/-! ### The elements an iteration detects -/

/-- Everything the detection of B1 and B2 can do, from a position on the line (42 R152). -/
theorem detectB_elements {s t : State} {b : Bool} (ha : s.a0.toInt < s.w) (h : detectB s = .run t b) :
    b = false ∧ ∃ b1 b2 : Nat, t = { s with b1 := BitVec.ofNat 12 b1, b2 := BitVec.ofNat 12 b2 } ∧
      s.a0.toInt < b1 ∧ b1 ≤ b2 ∧ b2 ≤ s.w := by
  obtain ⟨rfl, ⟨_, rfl⟩ | ⟨_, j, k, hj, hk, rfl⟩⟩ := detectB_eq_run h
  · exact ⟨rfl, s.w, s.w, by rw [← s.width_eq_ofNat], ha, le_rfl, le_rfl⟩
  · have first : FirstOpposite s j := firstOpposite_of_findB1 ha hj
    have next : Found .ref s.w j s k := (scanLine_eq_ok hk).2
    refine ⟨rfl, j, k, rfl, first.right, ?_, next.le⟩
    rcases first.le.lt_or_eq with hlt | heq
    · exact (Int.ofNat_lt.1 (next.lt (by omega))).le
    · rw [next.eq_end (by omega)]
      exact first.le

/-! ### Where the modes move A0 -/

/-- A sequence that comes to a state without a fault went through both its parts. -/
theorem Flow.andThen_eq_run_false {f : Flow} {k : State → Flow} {t : State} (h : f.andThen k = .run t false) :
    ∃ s, f = .run s false ∧ k s = .run t false :=
  (Flow.andThen_eq_run h).resolve_left fun ⟨hb, _⟩ => by simp at hb

/-- An emission that raises no fault is an accepted code (42 R156). -/
theorem emitSymbol_eq_run_false {sym : BitVec 6} {s t : State} (h : emitSymbol sym s = .run t false) :
    ∃ c, t = s.record (.writeCode c) true := by
  obtain ⟨c, _, h⟩ := sendFrom_eq_run h
  rcases sinkTransact_cases h with ⟨_, rfl⟩ | ⟨hb, _⟩
  · exact ⟨c, rfl⟩
  · simp at hb

theorem passMode_position {s t : State} (h : passMode s = .run t false) :
    t.a0 = s.b2.setWidth 13 ∧ t.a0c = s.a0c := by
  obtain ⟨u, hu, ht⟩ := Flow.andThen_eq_run_false h
  obtain ⟨c, rfl⟩ := emitSymbol_eq_run_false hu
  cases ht
  exact ⟨rfl, rfl⟩

theorem verticalMode_position {sym : BitVec 6} {s t : State} (h : verticalMode sym s = .run t false) :
    t.a0 = s.a1.setWidth 13 ∧ t.a0c = opp s.a0c := by
  obtain ⟨u, hu, ht⟩ := Flow.andThen_eq_run_false h
  obtain ⟨c, rfl⟩ := emitSymbol_eq_run_false hu
  cases ht
  exact ⟨rfl, rfl⟩

/-- The two runs move A0 to A2 and keep A0C (42 R164). -/
theorem sendRuns_position {s t : State} (h : sendRuns s = .run t false) :
    t.a0 = s.a2.setWidth 13 ∧ t.a0c = s.a0c := by
  have keeps (n : Nat) (c : Colour) : Keeps (fun s => (s.a2, s.a0c)) (runLength n c) :=
    runLength_keeps ⟨fun _ _ _ => rfl, fun _ _ => rfl⟩ (fun _ _ => rfl) n c
  obtain ⟨u, hu, h⟩ := Flow.andThen_eq_run_false h
  obtain ⟨v, hv, ht⟩ := Flow.andThen_eq_run_false h
  cases ht
  obtain ⟨a2, a0c⟩ := Prod.mk.inj ((keeps _ _ _ _ _ hv).trans (keeps _ _ _ _ _ hu))
  exact ⟨congrArg (BitVec.setWidth 13) a2, a0c⟩

theorem horizontalMode_position {s t : State} (h : horizontalMode s = .run t false) :
    ∃ j, scanLine .cur s.w s.a1.toNat s = .ok j ∧ t.a0 = (BitVec.ofNat 12 j).setWidth 13 ∧ t.a0c = s.a0c := by
  obtain ⟨u, hu, ht⟩ := Flow.andThen_eq_run_false h
  obtain ⟨v, hv, hm⟩ := Flow.andThen_eq_run_false hu
  obtain ⟨c, rfl⟩ := emitSymbol_eq_run_false hv
  obtain ⟨j, _, hj, rfl, _⟩ := measureRuns_eq_run hm
  rw [scanLine_congr (s := s) (by rfl) (by rfl)] at hj
  exact ⟨j, hj, sendRuns_position ht⟩

/-- Everything the mode decision can do to the coding position (42 R153 to R155, R164). -/
theorem performMode_position {s t : State} (h : performMode s = .run t false) :
    (s.b2.toNat < s.a1.toNat ∧ t.a0 = s.b2.setWidth 13 ∧ t.a0c = s.a0c) ∨
      (t.a0 = s.a1.setWidth 13 ∧ t.a0c = opp s.a0c) ∨
      ∃ j, scanLine .cur s.w s.a1.toNat s = .ok j ∧ t.a0 = (BitVec.ofNat 12 j).setWidth 13 ∧ t.a0c = s.a0c := by
  unfold performMode at h
  split at h
  · rename_i hm
    refine .inl ⟨?_, passMode_position h⟩
    unfold chooseMode at hm
    split at hm
    · assumption
    · split at hm <;> simp at hm
  · obtain ⟨ha0, hc⟩ := verticalMode_position h
    exact .inr (.inl ⟨ha0, hc⟩)
  · obtain ⟨j, hj, ht⟩ := horizontalMode_position h
    rw [scanLine_congr (s := s) (by rfl) (by rfl)] at hj
    exact .inr (.inr ⟨j, hj, ht⟩)

/-! ### One iteration -/

/-- Everything one iteration that raises no fault can do to the coding position, from a position on the line: pass
mode moves A0 to an element left of A1, vertical mode to A1, horizontal mode to the next change after A1. -/
theorem rowIteration_position {s t : State} (ha : s.a0.toInt < s.w) (h : rowIteration s = .run t false) :
    ∃ a1 : Nat, scanLine .cur s.w s.a0.toInt s = .ok a1 ∧
      ((∃ b2 : Nat, s.a0.toInt < b2 ∧ b2 < a1 ∧ t.a0.toInt = b2 ∧ t.a0c = s.a0c) ∨
        (t.a0.toInt = a1 ∧ t.a0c = opp s.a0c) ∨
        ∃ a2 : Nat, scanLine .cur s.w a1 s = .ok a2 ∧ t.a0.toInt = a2 ∧ t.a0c = s.a0c) := by
  obtain ⟨u, hu, ht⟩ := Flow.andThen_eq_run_false h
  obtain ⟨v, hv, hmode⟩ := Flow.andThen_eq_run_false hu
  obtain ⟨x, hx, hdetect⟩ := Flow.andThen_eq_run_false hv
  cases ht
  obtain ⟨a1, _, hscan, rfl⟩ := detectA1_eq_run hx
  obtain ⟨_, b1, b2, rfl, hright, hle, hend⟩ := detectB_elements (by exact ha) hdetect
  have hend : b2 ≤ s.w := hend
  have a1_le : a1 ≤ s.w := (scanLine_eq_ok hscan).2.le
  refine ⟨a1, hscan, ?_⟩
  rcases performMode_position hmode with ⟨hlt, ha0, hc⟩ | ⟨ha0, hc⟩ | ⟨a2, hnext, ha0, hc⟩
  · simp only [State.toNat_ofNat_of_le hend, State.toNat_ofNat_of_le a1_le] at hlt
    exact .inl ⟨b2, lt_of_lt_of_le hright (by omega), hlt, by
      rw [State.forgetTemps_a0, ha0, State.toInt_setWidth_ofNat_of_le hend], hc⟩
  · exact .inr (.inl ⟨by rw [State.forgetTemps_a0, ha0, State.toInt_setWidth_ofNat_of_le a1_le], hc⟩)
  · rw [scanLine_congr (s := s) (by rfl) (by rfl)] at hnext
    simp only [State.toNat_ofNat_of_le a1_le] at hnext
    have a2_le : a2 ≤ s.w := (scanLine_eq_ok hnext).2.le
    exact .inr (.inr ⟨a2, hnext, by rw [State.forgetTemps_a0, ha0, State.toInt_setWidth_ofNat_of_le a2_le], hc⟩)

/-- The scan from an element is never left of it. -/
theorem Found.ge {l : Buffer} {n i j : Nat} {s : State} (h : Found l n i s j) (hi : i ≤ n) : i ≤ j := by
  rcases hi.lt_or_eq with hlt | rfl
  · exact (Int.ofNat_lt.1 (h.lt (by omega))).le
  · exact (h.eq_end le_rfl).ge

/-- One iteration strictly increases A0, up to the end of the line (42 R169). -/
theorem rowIteration_progress {s t : State} (ha : s.a0.toInt < s.w) (h : rowIteration s = .run t false) :
    s.a0.toInt < t.a0.toInt ∧ t.a0.toInt ≤ s.w := by
  obtain ⟨a1, hscan, hcases⟩ := rowIteration_position ha h
  have found : Found .cur s.w s.a0.toInt s a1 := (scanLine_eq_ok hscan).2
  have right := found.lt ha
  have le := found.le
  rcases hcases with ⟨b2, _, _, ha0, _⟩ | ⟨ha0, _⟩ | ⟨a2, hnext, ha0, _⟩
  · omega
  · omega
  · have next : Found .cur s.w a1 s a2 := (scanLine_eq_ok hnext).2
    have := next.ge le
    have := next.le
    omega

/-- From a position of the loop invariant the scan of CUR passes pixels of colour A0C (42 R165). -/
theorem Found.pixels_of_onLine {s : State} {j : Nat} (hs : s.onLine) (h : Found .cur s.w s.a0.toInt s j)
    (ha : s.a0.toInt < s.w) :
    (∀ k : Nat, s.a0.toInt ≤ k → k < j → s.cur.pixel k = s.a0c) ∧ (j < s.w → s.cur.pixel j ≠ s.a0c) := by
  obtain ⟨c, hc, hrun, hstop⟩ := h.pixels ha
  have colour : c = s.a0c := by
    rcases hs with ⟨hv, hwhite⟩ | ⟨i, hi, _, hpixel⟩
    · rcases hc with ⟨_, rfl⟩ | ⟨h0, _⟩
      · exact hwhite.symm
      · omega
    · rcases hc with ⟨hv, _⟩ | ⟨_, rfl⟩
      · omega
      · rw [hi]
        exact hpixel
  exact ⟨fun k hk hkj => colour ▸ hrun k hk hkj, fun hj => colour ▸ hstop hj⟩

/-- Settles O34: by `rowIteration_position`, where pass mode stays among the pixels of colour A0C that the scan for A1
passed, vertical mode ends at a pixel of the other colour, and horizontal mode at the next one of colour A0C. -/
theorem rowLoopInvariant : Obligations.RowLoopInvariant := by
  refine ⟨fun s => .inl ⟨rfl, rfl⟩, fun s t hs ha h => ?_⟩
  have frame : s.LineFrame t := (rowIteration_coded h).frame
  obtain ⟨right, le⟩ := rowIteration_progress ha h
  refine ⟨frame.cur, frame.width, right, le, ?_⟩
  obtain ⟨a1, hscan, hcases⟩ := rowIteration_position ha h
  have found : Found .cur s.w s.a0.toInt s a1 := (scanLine_eq_ok hscan).2
  obtain ⟨passed, stop⟩ := found.pixels_of_onLine hs ha
  have onPixel {i : Nat} (hi : t.a0.toInt = i) (hpixel : i < s.w → s.cur.pixel i = t.a0c) :
      t.a0.toInt = s.w ∨ ∃ i : Nat, t.a0.toInt = i ∧ i < s.w ∧ s.cur.pixel i = t.a0c := by
    rcases lt_or_eq_of_le (show i ≤ s.w by omega) with hlt | heq
    · exact .inr ⟨i, hi, hlt, hpixel hlt⟩
    · exact .inl (by omega)
  rcases hcases with ⟨b2, hright, hlt, ha0, hc⟩ | ⟨ha0, hc⟩ | ⟨a2, hnext, ha0, hc⟩
  · exact onPixel ha0 fun _ => by rw [hc, passed b2 hright.le hlt]
  · exact onPixel ha0 fun hlt => by rw [hc, eq_opp_iff_ne]; exact stop hlt
  · have next : Found .cur s.w a1 s a2 := (scanLine_eq_ok hnext).2
    refine onPixel ha0 fun hlt => ?_
    have inside : a1 < s.w := lt_of_le_of_lt (next.ge found.le) hlt
    rw [hc]
    exact colour_eq_of_ne ((next.of_pixel inside).2 hlt) (stop inside).symm

end Sys2Proof.Machine
end

section
/-! The modes in front of an accepting sink (42_mode_selector R154 to R164): each sends its codes, whole, and then
updates the coding position. -/

namespace Sys2Proof.Machine

open Sys2Proof

/-! ### States after accepted codes -/

/-- An update of the registers can be made before the codes are sent or after. -/
theorem State.sent_update {g : State → State} (hg : ∀ s tx, (g s).record tx true = g (s.record tx true))
    (codes : List Code) (s : State) : (g s).sent codes = g (s.sent codes) := by
  induction codes generalizing s with
  | nil => rfl
  | cons c codes ih => rw [State.sent_cons, State.sent_cons, hg, ih]

theorem OffSink.sent {α : Type} {view : State → α} (hv : OffSink view) (codes : List Code) (s : State) :
    view (s.sent codes) = view s := by
  induction codes generalizing s with
  | nil => rfl
  | cons c codes ih => rw [State.sent_cons, ih, hv.record]

/-- A run inside the tables is one code or two. -/
theorem runCodes_length_le {n : Nat} (c : Colour) (h : n ≤ 2623) :
    1 ≤ (runCodes n c).length ∧ (runCodes n c).length ≤ 2 := by
  rw [runCodes_length n c h]
  split <;> simp

/-! ### One code -/

/-- An emission the script accepts sends the word of row `sym` (42 R156). -/
theorem emitSymbol_accepts {sym : BitVec 6} {k : Code} {s : State} {n : Nat} (hsym : sym.toNat ≤ 8)
    (hk : wordAt .mode sym.toNat = some k) (ha : s.acceptsNext (n + 1)) :
    emitSymbol sym s = .run (s.sent [k]) false := by
  obtain ⟨k', hk', send⟩ := emitSymbol_eq sym hsym
  obtain rfl : k' = k := Option.some.inj (hk'.symm.trans hk)
  rw [send]
  exact sinkTransact_accepts ha

theorem passMode_accepts {s : State} (ha : s.acceptsNext 1) :
    passMode s = .run { s.sent [⟨0x1, 4⟩] with a0 := s.b2.setWidth 13 } false := by
  rw [passMode, emitSymbol_accepts (k := ⟨0x1, 4⟩) (by decide) (by decide) ha]
  rfl

theorem verticalMode_accepts {sym : BitVec 6} {k : Code} {s : State} (hsym : sym.toNat ≤ 8)
    (hk : wordAt .mode sym.toNat = some k) (ha : s.acceptsNext 1) :
    verticalMode sym s = .run { s.sent [k] with a0 := s.a1.setWidth 13, a0c := opp s.a0c } false := by
  rw [verticalMode, emitSymbol_accepts hsym hk ha]
  rfl

/-- Settles O24: the nine words are rows 0 to 8 of the mode words. -/
theorem emitSendsTheModeCode : Obligations.EmitSendsTheModeCode := by
  intro s hp ha row hrow
  have word : row.1.toNat ≤ 8 ∧ wordAt .mode row.1.toNat = some ⟨BitVec.ofNat 24 row.2.1, row.2.2⟩ := by
    revert row
    decide
  rw [exec, execEmit, unlessError_of_ne hp, emitSymbol_accepts word.1 word.2 ha]
  rfl

/-- Settles O27: pass mode under its gate. -/
theorem passModeSendsItsCode : Obligations.PassModeSendsItsCode := by
  intro s hp ha
  rw [exec, execP, unlessError_of_ne hp, passMode_accepts ha]
  rfl

/-- A vertical mode issued alone, with the word of its row. -/
theorem exec_vertical_accepts {i : Instr} (sym : BitVec 6) {k : Code} {s : State}
    (hexec : exec i = unlessError (verticalMode sym)) (hsym : sym.toNat ≤ 8)
    (hk : wordAt .mode sym.toNat = some k) (hp : s.phase ≠ .error) (ha : s.acceptsNext 1) :
    exec i s = .next { s.sent [k] with
      a0 := s.a1.setWidth 13
      a0c := if s.a0c = .white then .black else .white } := by
  rw [hexec, unlessError_of_ne hp, verticalMode_accepts hsym hk ha, ← opp_eq_ite]
  rfl

/-- Settles O28: the seven operations are the vertical mode with symbols 2 to 8. -/
theorem verticalModesSendTheirCodes : Obligations.VerticalModesSendTheirCodes := by
  intro s hp ha
  simp only [List.forall_mem_cons, List.not_mem_nil, false_implies, implies_true, and_true]
  exact ⟨exec_vertical_accepts 2 rfl (by decide) (by decide) hp ha,
    exec_vertical_accepts 3 rfl (by decide) (by decide) hp ha,
    exec_vertical_accepts 4 rfl (by decide) (by decide) hp ha,
    exec_vertical_accepts 5 rfl (by decide) (by decide) hp ha,
    exec_vertical_accepts 6 rfl (by decide) (by decide) hp ha,
    exec_vertical_accepts 7 rfl (by decide) (by decide) hp ha,
    exec_vertical_accepts 8 rfl (by decide) (by decide) hp ha⟩

/-! ### The mode decision -/

theorem chooseMode_pass_iff (s : State) : chooseMode s = .pass ↔ s.b2.toNat < s.a1.toNat := by
  unfold chooseMode
  split
  · simp [*]
  · split <;> simp [*]

theorem chooseMode_vertical_iff (s : State) : chooseMode s = .vertical ↔
    s.a1.toNat ≤ s.b2.toNat ∧ -3 ≤ s.distance ∧ s.distance ≤ 3 := by
  unfold chooseMode
  simp only [Config.vMax, Nat.cast_ofNat]
  by_cases pass : s.b2.toNat < s.a1.toNat
  · simp [pass, Nat.not_le.2 pass]
  · by_cases near : -3 ≤ s.distance ∧ s.distance ≤ 3
    · simp [pass, near, Nat.not_lt.1 pass]
    · simp [pass, near]

/-- The state with D written (42 R153). -/
def State.writeDistance (s : State) : State :=
  { s with d := BitVec.ofInt 13 s.distance }

theorem performMode_of_pass {s : State} (hm : chooseMode s = .pass) : performMode s = passMode s := by
  rw [performMode, hm]

theorem performMode_of_vertical {s : State} (hm : chooseMode s = .vertical) :
    performMode s = verticalMode (verticalSymbol s.distance) s.writeDistance := by
  rw [performMode, hm]
  rfl

theorem performMode_of_horizontal {s : State} (hm : chooseMode s = .horizontal) :
    performMode s = horizontalMode s.writeDistance := by
  rw [performMode, hm]
  rfl

/-- Vertical mode as the mode decision performs it: D is written, and the code is that of the distance. -/
theorem performMode_vertical {s : State} {k : Code} (hm : chooseMode s = .vertical)
    (hk : wordAt .mode (verticalSymbol s.distance).toNat = some k) (hsym : (verticalSymbol s.distance).toNat ≤ 8)
    (ha : s.acceptsNext 1) :
    performMode s = .run { s.sent [k] with
      d := BitVec.ofInt 13 s.distance
      a0 := s.a1.setWidth 13
      a0c := opp s.a0c } false :=
  (performMode_of_vertical hm).trans (verticalMode_accepts (s := s.writeDistance) hsym hk ha)

/-- Settles O31: for each of the seven distances, the word of its symbol. -/
theorem verticalDistanceSelectsTheSymbol : Obligations.VerticalDistanceSelectsTheSymbol := by
  intro s ha hb row hrow hd
  have word : (-3 ≤ row.1 ∧ row.1 ≤ 3) ∧ (verticalSymbol row.1).toNat ≤ 8 ∧
      wordAt .mode (verticalSymbol row.1).toNat = some ⟨BitVec.ofNat 24 row.2.1, row.2.2⟩ := by
    clear hd
    revert row
    decide
  obtain ⟨near, hsym, hk⟩ := word
  have distance : s.distance = row.1 := hd
  rw [← distance] at near hsym hk ⊢
  rw [performMode_vertical ((chooseMode_vertical_iff s).2 ⟨hb, near⟩) hk hsym ha, opp_eq_ite]

/-! ### Horizontal mode -/

/-- The state with A2 found and the two runs measured (42 R164). -/
def State.measured (a2 n m : Nat) (s : State) : State :=
  { s with a2 := BitVec.ofNat 12 a2, l1 := BitVec.ofNat 12 n, l2 := BitVec.ofNat 12 m }

section
variable {s : State}

/-- The first run in natural numbers: the virtual start counts as position 0 (42 R164). -/
theorem firstRun_eq (hv : -1 ≤ s.a0.toInt) (ha : s.a0.toInt ≤ s.a1.toNat) :
    s.firstRun = (s.a1.toNat - s.a0.toInt.toNat : Nat) := by
  unfold State.firstRun
  split <;> omega

/-- The measurement of the two runs where neither is negative (42 R164). -/
theorem measureRuns_eq {j n : Nat} (hj : scanLine .cur s.w s.a1.toNat s = .ok j) (first : s.firstRun = n)
    (h : s.a1.toNat ≤ j) : measureRuns s = .run (s.measured j n (j - s.a1.toNat)) false := by
  have second : ({ s with a2 := BitVec.ofNat 12 j } : State).secondRun = (j - s.a1.toNat : Nat) := by
    simp only [State.secondRun, State.toNat_ofNat_of_le (scanLine_eq_ok hj).2.le]
    omega
  have first : ({ s with a2 := BitVec.ofNat 12 j } : State).firstRun = n := first
  unfold measureRuns
  simp only [hj, first, second, BitVec.ofInt_natCast]
  exact if_neg (by omega)

/-- A run inside the tables whose codes are all accepted: Q and R hold its split (43 R181). -/
theorem runLength_eq_sent {n : Nat} {c : Colour} {s : State} (hn : n ≤ 2623)
    (ha : s.acceptsNext (runCodes n c).length) :
    runLength n c s = .run ((s.sent (runCodes n c)).splitRun n) false := by
  rw [runLength_accepts hn ha, State.sent_update (g := State.splitRun n) fun _ _ => rfl]

/-- The two runs, their codes all accepted (42 R164). -/
theorem sendRuns_accepts {n m : Nat} (first : s.firstRun = n) (second : s.secondRun = m) (hn : n ≤ 2623)
    (hm : m ≤ 2623) (ha : s.acceptsNext (runCodes n s.a0c ++ runCodes m (opp s.a0c)).length) :
    sendRuns s = .run { (s.sent (runCodes n s.a0c ++ runCodes m (opp s.a0c))).splitRun m with
      a0 := s.a2.setWidth 13 } false := by
  rw [List.length_append] at ha
  have secondRun (codes : List Code) : (s.sent codes).secondRun = m :=
    (OffSink.sent ⟨fun _ _ _ => rfl, fun _ _ => rfl⟩ codes s).trans second
  have a0c (codes : List Code) : (s.sent codes).a0c = s.a0c :=
    OffSink.sent (view := State.a0c) ⟨fun _ _ _ => rfl, fun _ _ => rfl⟩ codes s
  have a2 (codes : List Code) : (s.sent codes).a2 = s.a2 :=
    OffSink.sent (view := State.a2) ⟨fun _ _ _ => rfl, fun _ _ => rfl⟩ codes s
  have run1 := runLength_eq_sent (c := s.a0c) hn (State.acceptsNext_of_le ha (Nat.le_add_right _ _))
  have run2 : runLength m (opp s.a0c) ((s.sent (runCodes n s.a0c)).splitRun n) = .run
      (((s.sent (runCodes n s.a0c ++ runCodes m (opp s.a0c))).splitRun n).splitRun m) false := by
    rw [runLength_eq_sent (s := (s.sent (runCodes n s.a0c)).splitRun n) hm (State.acceptsNext_sent ha),
      State.sent_update (g := State.splitRun n) fun _ _ => rfl, State.sent_append]
  rw [sendRuns, first, Int.toNat_natCast, run1]
  show (runLength (s.sent _).secondRun.toNat (opp (s.sent _).a0c) _).andThen _ = _
  rw [secondRun, a0c, Int.toNat_natCast, run2, ← a2 (runCodes n s.a0c ++ runCodes m (opp s.a0c))]
  rfl

/-- Horizontal mode on elements in order, its codes all accepted (42 R164). -/
theorem horizontalMode_accepts {j n m : Nat} (hw : s.w ≤ Config.wMax) (hj : scanLine .cur s.w s.a1.toNat s = .ok j)
    (first : s.firstRun = n) (hn : n ≤ 2623) (hm : s.a1.toNat + m = j)
    (ha : s.acceptsNext (⟨0x1, 3⟩ :: (runCodes n s.a0c ++ runCodes m (opp s.a0c))).length) :
    horizontalMode s = .run
      { ((s.sent (⟨0x1, 3⟩ :: (runCodes n s.a0c ++ runCodes m (opp s.a0c)))).measured j n m).splitRun m with
        a0 := BitVec.ofNat 13 j } false := by
  have j_le : j ≤ s.w := (scanLine_eq_ok hj).2.le
  have prefixed : emitSymbol 1 s = .run (s.sent [⟨0x1, 3⟩]) false :=
    emitSymbol_accepts (by decide) (by decide) ha
  have measured : measureRuns (s.sent [⟨0x1, 3⟩]) = .run ((s.sent [⟨0x1, 3⟩]).measured j n m) false := by
    obtain rfl : m = j - s.a1.toNat := by omega
    have hle : s.a1.toNat ≤ j := by omega
    exact measureRuns_eq ((scanLine_congr (t := s.sent [⟨0x1, 3⟩]) (by rfl) (by rfl) _ _).trans hj) first hle
  have second : ((s.sent [⟨0x1, 3⟩]).measured j n m).secondRun = m := by
    show ((BitVec.ofNat 12 j).toNat : Int) - s.a1.toNat = m
    rw [State.toNat_ofNat_of_le j_le]
    omega
  have m_le : m ≤ 2623 := le_trans (by omega) hw
  rw [horizontalMode, prefixed, Flow.run_false_andThen, measured, Flow.run_false_andThen,
    sendRuns_accepts (s := (s.sent [⟨0x1, 3⟩]).measured j n m) first second hn m_le
      (State.acceptsNext_record (.writeCode ⟨0x1, 3⟩) true ha),
    State.sent_update (g := State.measured j n m) fun _ _ => rfl, ← State.setWidth_ofNat_of_le j_le]
  rfl

end

/-- Settles O29: `horizontalMode_accepts` under its gate; the codes of the two runs are at most four. -/
theorem horizontalModeSendsTwoRuns : Obligations.HorizontalModeSendsTwoRuns := by
  intro s j hp hw ha1 hv hle hj ha run1 other
  have found : Found .cur s.w s.a1.toNat s j := (scanLine_eq_ok hj).2
  have j_le : j ≤ s.w := found.le
  have j_ge : s.a1.toNat ≤ j := found.ge ha1
  have w_le : s.w ≤ 2623 := hw
  have run1_eq : run1 = s.a1.toNat - s.a0.toInt.toNat := by
    simp only [run1]
    split
    · omega
    · rw [toNat_toInt_of_nonneg (by omega)]
  have len1 := runCodes_length_le s.a0c (n := run1) (by omega)
  have len2 := runCodes_length_le other (n := j - s.a1.toNat) (by omega)
  have codes : other = opp s.a0c := (opp_eq_ite _).symm
  rw [exec, execH, unlessError_of_ne hp, horizontalMode_accepts (n := run1) hw hj (by rw [firstRun_eq hv hle, run1_eq])
    (by omega) (Nat.add_sub_of_le j_ge) (State.acceptsNext_of_le ha ?_), ← codes]
  · rfl
  · rw [← codes, List.length_cons, List.length_append]
    omega

end Sys2Proof.Machine
end

section
/-! The detection of an iteration's elements (42_mode_selector R151, R152, R166): it always answers from a position on
the line, and with an absent or an all-WHITE reference B1 and B2 are the end of the line. -/

namespace Sys2Proof.Machine

open Sys2Proof

section
variable {s : State}

/-! ### With a usable reference -/

theorem detectB_of_findB1 {b1 b2 : Nat} (hr : s.refv = true) (h1 : findB1 s = .ok b1)
    (h2 : scanLine .ref s.w b1 s = .ok b2) :
    detectB s = .run { s with b1 := BitVec.ofNat 12 b1, b2 := BitVec.ofNat 12 b2 } false := by
  simp [detectB, hr, h1, h2]

/-- Settles O32: `FirstOpposite` for B1, and `Found` for the scan that answers B2. -/
theorem b1IsTheFirstOppositeChange : Obligations.B1IsTheFirstOppositeChange := by
  intro s hr hv ha hw
  obtain ⟨b1, h1⟩ := findB1_total hv hw
  have first : FirstOpposite s b1 := firstOpposite_of_findB1 ha h1
  obtain ⟨b2, h2⟩ := scanLine_total (l := .ref) (start := b1) (by omega) le_rfl hw
  have next : Found .ref s.w b1 s b2 := (scanLine_eq_ok h2).2
  have b2_ge : b1 ≤ b2 := next.ge first.le
  refine ⟨b1, b2, detectB_of_findB1 hr h1 h2, first.right, b2_ge, next.le,
    fun hlt => Int.ofNat_lt.1 (next.lt (by omega)), fun hlt => ⟨first.colour hlt, first.changing hlt⟩, first.first,
    fun k hk hkb => ?_, fun hlt => ?_⟩
  · have := next.le
    exact (next.of_pixel (by omega)).1 k hk hkb
  · exact (next.of_pixel (by omega)).2 hlt

theorem detectB_total (hv : -1 ≤ s.a0.toInt) (hw : s.w ≤ Config.wMax) : ∃ t, detectB s = .run t false := by
  cases hr : s.refv with
  | false => exact ⟨_, if_pos hr⟩
  | true =>
    obtain ⟨b1, h1⟩ := findB1_total hv hw
    obtain ⟨b2, h2⟩ := scanLine_total (l := .ref) (start := b1) (by omega) le_rfl hw
    exact ⟨_, detectB_of_findB1 hr h1 h2⟩

/-! ### Lines of one colour -/

/-- A scan of a line of one colour answers the end. -/
theorem scanLine_uniform {l : Buffer} {c : Colour} {start : Int} (hpixel : ∀ i < s.w, (s.buffer l).pixel i = c)
    (hv : -1 ≤ start) (hs : start < s.w) (hc : start = -1 → c = .white) (hw : s.w ≤ Config.wMax) :
    scanLine l s.w start s = .ok s.w := by
  obtain ⟨j, hj⟩ := scanLine_total (l := l) hv le_rfl hw
  have found : Found l s.w start s j := (scanLine_eq_ok hj).2
  obtain ⟨d, hd, _, hstop⟩ := found.pixels hs
  have colour : d = c := by
    rcases hd with ⟨hstart, rfl⟩ | ⟨_, rfl⟩
    · exact (hc hstart).symm
    · exact hpixel _ (by omega)
  have atEnd : j = s.w := by
    by_contra hne
    have inside : j < s.w := lt_of_le_of_ne found.le hne
    exact hstop inside (colour ▸ hpixel j inside)
  rw [hj, atEnd]

/-- The scan of a line whose first pixel is BLACK stops there (41_scanner R143). -/
theorem scanLine_black_first {l : Buffer} (hpixel : (s.buffer l).pixel 0 = .black)
    (hw : s.w ≤ Config.wMax) : scanLine l s.w (-1) s = .ok 0 := by
  obtain ⟨j, hj⟩ := scanLine_total (l := l) (start := -1) le_rfl le_rfl hw
  have white := (scanLine_eq_ok hj).2.of_virtual.1
  have atStart : j = 0 := by
    by_contra hne
    simp [white 0 (Nat.pos_of_ne_zero hne)] at hpixel
  rw [hj, atStart]

/-- REF is no help for coding this line: absent, or WHITE throughout (42 R166, R168). -/
def State.blankRef (s : State) : Prop :=
  s.refv = false ∨ ∀ i < s.w, s.ref.pixel i = .white

/-- With such a reference B1 and B2 are the end of the line. -/
theorem detectB_of_blankRef (href : s.blankRef) (hv : -1 ≤ s.a0.toInt) (ha : s.a0.toInt < s.w)
    (hw : s.w ≤ Config.wMax) : detectB s = .run { s with b1 := s.width, b2 := s.width } false := by
  by_cases hr : s.refv = false
  · exact if_pos hr
  · have white : ∀ i < s.w, s.ref.pixel i = .white := href.resolve_left hr
    have scan : scanLine .ref s.w s.a0.toInt s = .ok s.w := scanLine_uniform (l := .ref) white hv ha (fun _ => rfl) hw
    have first : findB1 s = .ok s.w := by simp [findB1, scan]
    have atEnd : scanLine .ref s.w s.w s = .ok s.w := by
      rw [scanLine, if_neg (by omega), if_pos le_rfl]
    rw [detectB_of_findB1 (by simpa using hr) first atEnd, ← s.width_eq_ofNat]

/-! ### The elements of one iteration -/

/-- The state with the elements of one iteration detected (42 R151, R152). -/
def State.detected (a1 b1 b2 : Nat) (s : State) : State :=
  { s with a1 := BitVec.ofNat 12 a1, b1 := BitVec.ofNat 12 b1, b2 := BitVec.ofNat 12 b2 }

/-- What detection finds from a position on the line: A1 by the scan of CUR, and B1 and B2 right of A0, in order. -/
structure Detection (s : State) (a1 b1 b2 : Nat) : Prop where
  scan : scanLine .cur s.w s.a0.toInt s = .ok a1
  elements : detectB s = .run { s with b1 := BitVec.ofNat 12 b1, b2 := BitVec.ofNat 12 b2 } false
  right : s.a0.toInt < b1
  le : b1 ≤ b2
  end_le : b2 ≤ s.w

theorem exists_detection (hv : -1 ≤ s.a0.toInt) (ha : s.a0.toInt < s.w) (hw : s.w ≤ Config.wMax) :
    ∃ a1 b1 b2, Detection s a1 b1 b2 := by
  obtain ⟨a1, hscan⟩ := scanLine_total (l := .cur) hv le_rfl hw
  obtain ⟨t, ht⟩ := detectB_total hv hw
  obtain ⟨_, b1, b2, rfl, right, le, end_le⟩ := detectB_elements ha ht
  exact ⟨a1, b1, b2, hscan, ht, right, le, end_le⟩

theorem Detection.of_blankRef {a1 : Nat} (href : s.blankRef) (hv : -1 ≤ s.a0.toInt) (ha : s.a0.toInt < s.w)
    (hw : s.w ≤ Config.wMax) (hscan : scanLine .cur s.w s.a0.toInt s = .ok a1) : Detection s a1 s.w s.w :=
  ⟨hscan, by rw [← s.width_eq_ofNat]; exact detectB_of_blankRef href hv ha hw, ha, le_rfl, le_rfl⟩

theorem Detection.a1_le {a1 b1 b2 : Nat} (h : Detection s a1 b1 b2) : a1 ≤ s.w := (scanLine_eq_ok h.scan).2.le

/-- A1 lies right of A0. -/
theorem Detection.a1_right {a1 b1 b2 : Nat} (h : Detection s a1 b1 b2) (ha : s.a0.toInt < s.w) : s.a0.toInt < a1 :=
  (scanLine_eq_ok h.scan).2.lt ha

theorem detectA1_of_scan {a1 : Nat} (h : scanLine .cur s.w s.a0.toInt s = .ok a1) :
    detectA1 s = .run { s with a1 := BitVec.ofNat 12 a1 } false := by
  rw [detectA1, h]
  rfl

/-- The detection of B1 and B2 reads neither A1 nor the temporaries. -/
theorem detectB_writeA1 {t : State} (h : detectB s = .run t false) (x : BitVec 12) :
    detectB { s with a1 := x } = .run { t with a1 := x } false := by
  have alike : Alike s.sinkLog s.sinkLog s { s with a1 := x } :=
    ⟨rfl, rfl, rfl, rfl, rfl, rfl, rfl, rfl, rfl, rfl, [], by simp, by simp⟩
  obtain ⟨_, ⟨hr, rfl⟩ | ⟨hr, j, k, hj, hk, rfl⟩⟩ := detectB_eq_run h
  · exact if_pos hr
  · exact detectB_of_findB1 (s := { s with a1 := x }) hr (alike.findB1.trans hj) ((alike.scanLine_ref _ _).trans hk)

theorem Detection.detect {a1 b1 b2 : Nat} (h : Detection s a1 b1 b2) :
    (detectA1 s).andThen detectB = .run (s.detected a1 b1 b2) false := by
  rw [detectA1_of_scan h.scan, Flow.run_false_andThen, detectB_writeA1 h.elements]
  rfl

/-- After its detection one iteration is the mode decision (42 R150, R153). -/
theorem Detection.rowIteration_eq {a1 b1 b2 : Nat} (h : Detection s a1 b1 b2) :
    rowIteration s = (performMode (s.detected a1 b1 b2)).andThen fun t => .run t.forgetTemps false := by
  rw [rowIteration, h.detect, Flow.run_false_andThen]

section
variable {a1 b1 b2 : Nat} (h : Detection s a1 b1 b2)
include h

theorem Detection.distance : (s.detected a1 b1 b2).distance = (a1 : Int) - b1 := by
  show ((BitVec.ofNat 12 a1).toNat : Int) - (BitVec.ofNat 12 b1).toNat = _
  rw [State.toNat_ofNat_of_le h.a1_le, State.toNat_ofNat_of_le (h.le.trans h.end_le)]

theorem Detection.pass_iff : chooseMode (s.detected a1 b1 b2) = .pass ↔ b2 < a1 := by
  rw [chooseMode_pass_iff]
  show (BitVec.ofNat 12 b2).toNat < (BitVec.ofNat 12 a1).toNat ↔ _
  rw [State.toNat_ofNat_of_le h.a1_le, State.toNat_ofNat_of_le h.end_le]

theorem Detection.vertical_iff : chooseMode (s.detected a1 b1 b2) = .vertical ↔
    a1 ≤ b2 ∧ -3 ≤ (a1 : Int) - b1 ∧ (a1 : Int) - b1 ≤ 3 := by
  rw [chooseMode_vertical_iff, h.distance]
  show (BitVec.ofNat 12 a1).toNat ≤ (BitVec.ofNat 12 b2).toNat ∧ _ ↔ _
  rw [State.toNat_ofNat_of_le h.a1_le, State.toNat_ofNat_of_le h.end_le]

/-- The three modes are a case distinction: neither pass nor vertical mode leaves horizontal mode. -/
theorem Detection.horizontal (hle : a1 ≤ b2) (hfar : ¬ (-3 ≤ (a1 : Int) - b1 ∧ (a1 : Int) - b1 ≤ 3)) :
    chooseMode (s.detected a1 b1 b2) = .horizontal := by
  cases hm : chooseMode (s.detected a1 b1 b2) with
  | pass => exact absurd (h.pass_iff.1 hm) (Nat.not_lt.2 hle)
  | vertical => exact absurd (h.vertical_iff.1 hm).2 hfar
  | horizontal => rfl

/-- What horizontal mode measures on the detected elements (42 R164). -/
theorem Detection.runs {a2 : Nat} (hv : -1 ≤ s.a0.toInt) (ha : s.a0.toInt < s.w)
    (hnext : scanLine .cur s.w a1 s = .ok a2) :
    (s.detected a1 b1 b2).writeDistance.firstRun = (a1 - s.a0.toInt.toNat : Nat) ∧
      scanLine .cur s.w (s.detected a1 b1 b2).writeDistance.a1.toNat (s.detected a1 b1 b2).writeDistance = .ok a2 ∧
      (s.detected a1 b1 b2).writeDistance.a1.toNat + (a2 - a1) = a2 := by
  have a1_toNat : (s.detected a1 b1 b2).writeDistance.a1.toNat = a1 := State.toNat_ofNat_of_le h.a1_le
  have right : s.a0.toInt ≤ (s.detected a1 b1 b2).writeDistance.a1.toNat := by
    rw [a1_toNat]
    exact (h.a1_right ha).le
  have a2_ge : a1 ≤ a2 := (scanLine_eq_ok hnext).2.ge h.a1_le
  refine ⟨?_, ?_, by omega⟩
  · rw [firstRun_eq (s := (s.detected a1 b1 b2).writeDistance) hv right, a1_toNat]
    rfl
  · rw [a1_toNat, scanLine_congr (s := s) (by rfl) (by rfl)]
    exact hnext

end

end

/-- Settles O37: without a reference B1 and B2 are W, A1 is at most W, and the distance is A1 - W. -/
theorem firstRowNeverTakesPassMode : Obligations.FirstRowNeverTakesPassMode := by
  intro s hr hv hw
  obtain ⟨a1, hscan⟩ := scanLine_total (l := .cur) hv le_rfl hw
  have a1_le : a1 ≤ s.w := (scanLine_eq_ok hscan).2.le
  have a1_toNat := State.toNat_ofNat_of_le a1_le
  refine ⟨{ s with a1 := BitVec.ofNat 12 a1, b1 := s.width, b2 := s.width }, ?_, rfl, rfl, ?_, ?_⟩
  · rw [detectA1_of_scan hscan]
    exact if_pos hr
  · rw [Ne, chooseMode_pass_iff]
    show ¬ s.w < (BitVec.ofNat 12 a1).toNat
    omega
  · rw [chooseMode_vertical_iff]
    show (BitVec.ofNat 12 a1).toNat ≤ s.w ∧ -3 ≤ ((BitVec.ofNat 12 a1).toNat : Int) - s.w ∧
      ((BitVec.ofNat 12 a1).toNat : Int) - s.w ≤ 3 ↔ s.w ≤ (BitVec.ofNat 12 a1).toNat + 3
    omega

end Sys2Proof.Machine
end

section
/-! ROWENC in front of an accepting sink (42_mode_selector R150, R153, R169): what one iteration sends in each mode, and
the row loop up to the end of the line. -/

namespace Sys2Proof.Machine

open Sys2Proof

/-! ### The sink side of the state -/

/-- The sink's transactions, its answers to come and the number of transactions. -/
def State.sinkSide (s : State) : List SinkEvent × List SinkAnswer × Nat :=
  (s.sinkLog, s.sinkAnswers, s.txCount)

/-- What sending codes makes of the sink side depends on the sink side alone. -/
theorem State.sinkSide_sent_congr {s t : State} (h : t.sinkSide = s.sinkSide) (codes : List Code) :
    (t.sent codes).sinkSide = (s.sent codes).sinkSide := by
  obtain ⟨log, rest⟩ := Prod.mk.inj h
  obtain ⟨answers, count⟩ := Prod.mk.inj rest
  simp only [sendingCodesTouchesTheSinkAlone codes, State.sinkSide, log, answers, count]

theorem State.acceptsNext_of_sinkSide {s t : State} {n : Nat} (h : t.sinkSide = s.sinkSide) (ha : s.acceptsNext n) :
    t.acceptsNext n :=
  State.acceptsNext_congr (congrArg (fun x => x.2.1) h) ha

/-- The operation comes to a state without a fault, having sent exactly these codes, with this coding position. -/
def CodesTo (f : Flow) (s : State) (codes : List Code) (a0 : Nat) (a0c : Colour) : Prop :=
  ∃ t, f = .run t false ∧ t.sinkSide = (s.sent codes).sinkSide ∧ t.a0.toInt = a0 ∧ t.a0c = a0c

/-! ### One iteration, mode by mode -/

/-- The word of a vertical distance: rows 2 to 8 of the mode words (42 R155). -/
theorem verticalSymbol_word {dist : Int} (hlo : -3 ≤ dist) (hhi : dist ≤ 3) :
    (verticalSymbol dist).toNat = (if dist = 0 then 2 else if 0 < dist then (2 + dist).toNat else (5 - dist).toNat) ∧
      (verticalSymbol dist).toNat ≤ 8 ∧ ∃ k, wordAt .mode (verticalSymbol dist).toNat = some k := by
  have rows : ∀ d ∈ ([-3, -2, -1, 0, 1, 2, 3] : List Int),
      (verticalSymbol d).toNat = (if d = 0 then 2 else if 0 < d then (2 + d).toNat else (5 - d).toNat) ∧
        (verticalSymbol d).toNat ≤ 8 ∧ (wordAt .mode (verticalSymbol d).toNat).isSome := by decide
  obtain ⟨symbol, le, word⟩ := rows dist (by simp only [List.mem_cons, List.not_mem_nil, or_false]; omega)
  exact ⟨symbol, le, Option.isSome_iff_exists.1 word⟩

section
variable {s : State} {a1 b1 b2 : Nat}

theorem Detection.codesTo_pass (h : Detection s a1 b1 b2) (hlt : b2 < a1) (acc : s.acceptsNext 1) :
    CodesTo (rowIteration s) s [⟨0x1, 4⟩] b2 s.a0c := by
  rw [h.rowIteration_eq, performMode_of_pass (h.pass_iff.2 hlt), passMode_accepts (s := s.detected a1 b1 b2) acc]
  exact ⟨_, rfl, rfl, State.toInt_setWidth_ofNat_of_le h.end_le, rfl⟩

theorem Detection.codesTo_vertical (h : Detection s a1 b1 b2) {k : Code} (hle : a1 ≤ b2)
    (hlo : -3 ≤ (a1 : Int) - b1) (hhi : (a1 : Int) - b1 ≤ 3)
    (hk : wordAt .mode (verticalSymbol ((a1 : Int) - b1)).toNat = some k) (acc : s.acceptsNext 1) :
    CodesTo (rowIteration s) s [k] a1 (opp s.a0c) := by
  obtain ⟨_, symbol, _⟩ := verticalSymbol_word hlo hhi
  rw [h.rowIteration_eq, performMode_vertical (k := k) (h.vertical_iff.2 ⟨hle, hlo, hhi⟩) (by rw [h.distance, hk])
    (by rw [h.distance]; exact symbol) acc]
  exact ⟨_, rfl, rfl, State.toInt_setWidth_ofNat_of_le h.a1_le, rfl⟩

theorem Detection.codesTo_horizontal (h : Detection s a1 b1 b2) {a2 : Nat} (hv : -1 ≤ s.a0.toInt)
    (ha : s.a0.toInt < s.w) (hw : s.w ≤ Config.wMax) (hle : a1 ≤ b2)
    (hfar : ¬ (-3 ≤ (a1 : Int) - b1 ∧ (a1 : Int) - b1 ≤ 3)) (hnext : scanLine .cur s.w a1 s = .ok a2)
    (acc : s.acceptsNext
      (⟨0x1, 3⟩ :: (runCodes (a1 - s.a0.toInt.toNat) s.a0c ++ runCodes (a2 - a1) (opp s.a0c))).length) :
    CodesTo (rowIteration s) s
      (⟨0x1, 3⟩ :: (runCodes (a1 - s.a0.toInt.toNat) s.a0c ++ runCodes (a2 - a1) (opp s.a0c))) a2 s.a0c := by
  have next : Found .cur s.w a1 s a2 := (scanLine_eq_ok hnext).2
  have a1_le := h.a1_le
  have w_le : s.w ≤ 2623 := hw
  obtain ⟨first, scan, sum⟩ := h.runs hv ha hnext
  rw [h.rowIteration_eq, performMode_of_horizontal (h.horizontal hle hfar),
    horizontalMode_accepts (s := (s.detected a1 b1 b2).writeDistance) hw scan first (by omega) sum acc]
  refine ⟨_, rfl, State.sinkSide_sent_congr (s := s) (t := (s.detected a1 b1 b2).writeDistance) rfl _, ?_,
    OffSink.sent (view := State.a0c) ⟨fun _ _ _ => rfl, fun _ _ => rfl⟩ _ (s.detected a1 b1 b2).writeDistance⟩
  rw [← State.setWidth_ofNat_of_le next.le]
  exact State.toInt_setWidth_ofNat_of_le next.le

/-- The codes of horizontal mode on the line are three to five. -/
theorem horizontal_codes_length {n m : Nat} (c : Colour) (hn : n ≤ 2623) (hm : m ≤ 2623) :
    1 ≤ (⟨0x1, 3⟩ :: (runCodes n c ++ runCodes m (opp c))).length ∧
      (⟨0x1, 3⟩ :: (runCodes n c ++ runCodes m (opp c))).length ≤ 5 := by
  have len1 := runCodes_length_le c hn
  have len2 := runCodes_length_le (opp c) hm
  rw [List.length_cons, List.length_append]
  omega

/-- One iteration in front of a sink that accepts five codes sends one to five (42 R153, R164). -/
theorem rowIteration_accepts (hv : -1 ≤ s.a0.toInt) (ha : s.a0.toInt < s.w) (hw : s.w ≤ Config.wMax)
    (acc : s.acceptsNext 5) : ∃ codes a0 a0c, CodesTo (rowIteration s) s codes a0 a0c ∧
      1 ≤ codes.length ∧ codes.length ≤ 5 := by
  obtain ⟨a1, b1, b2, h⟩ := exists_detection hv ha hw
  have one : s.acceptsNext 1 := State.acceptsNext_of_le acc (by omega)
  by_cases pass : b2 < a1
  · exact ⟨_, _, _, h.codesTo_pass pass one, by simp⟩
  · by_cases near : -3 ≤ (a1 : Int) - b1 ∧ (a1 : Int) - b1 ≤ 3
    · obtain ⟨_, _, k, hk⟩ := verticalSymbol_word near.1 near.2
      exact ⟨_, _, _, h.codesTo_vertical (Nat.not_lt.1 pass) near.1 near.2 hk one, by simp⟩
    · obtain ⟨a2, hnext⟩ := scanLine_total (l := .cur) (start := a1) (by omega) le_rfl hw
      have a1_le := h.a1_le
      have a2_le := (scanLine_eq_ok hnext).2.le
      have w_le : s.w ≤ 2623 := hw
      have len := horizontal_codes_length (n := a1 - s.a0.toInt.toNat) (m := a2 - a1) s.a0c (by omega) (by omega)
      exact ⟨_, _, _, h.codesTo_horizontal hv ha hw (Nat.not_lt.1 pass) near hnext
        (State.acceptsNext_of_le acc len.2), len⟩

end

/-- Settles O33: the three `codesTo` lemmas, one per branch of the priority rule. -/
theorem oneIterationCodesByThePriorityRule : Obligations.OneIterationCodesByThePriorityRule := by
  intro s hv ha hw acc
  obtain ⟨a1, b1, b2, h⟩ := exists_detection hv ha hw
  obtain ⟨a2, hnext⟩ := scanLine_total (l := .cur) (start := a1) (by omega) le_rfl hw
  have b1_toNat : (BitVec.ofNat 12 b1).toNat = b1 := State.toNat_ofNat_of_le (h.le.trans h.end_le)
  have b2_toNat : (BitVec.ofNat 12 b2).toNat = b2 := State.toNat_ofNat_of_le h.end_le
  have one : s.acceptsNext 1 := State.acceptsNext_of_le acc (by omega)
  have conclude {codes : List Code} {a0 : Nat} {a0c : Colour} (hc : CodesTo (rowIteration s) s codes a0 a0c) :
      ∃ t, rowIteration s = .run t false ∧ s.LineFrame t ∧ t.sinkLog = (s.sent codes).sinkLog ∧
        t.phase = s.phase ∧ t.errcode = s.errcode ∧ t.a0.toInt = a0 ∧ t.a0c = a0c := by
    obtain ⟨t, ht, side, ha0, hc⟩ := hc
    have coded := rowIteration_coded ht
    exact ⟨t, ht, coded.frame, congrArg Prod.fst side, (coded.clean rfl).1, (coded.clean rfl).2, ha0, hc⟩
  by_cases pass : b2 < a1
  · obtain ⟨t, ht, frame, log, hp, he, ha0, hc⟩ := conclude (h.codesTo_pass pass one)
    refine ⟨a1, a2, _, t, _, h.scan, hnext, h.elements, ht, frame, log, hp, he, ?_⟩
    simp only [b2_toNat, pass, if_true]
    exact ⟨trivial, ha0, hc⟩
  · by_cases near : -3 ≤ (a1 : Int) - b1 ∧ (a1 : Int) - b1 ≤ 3
    · obtain ⟨symbol, _, k, hk⟩ := verticalSymbol_word near.1 near.2
      obtain ⟨t, ht, frame, log, hp, he, ha0, hc⟩ :=
        conclude (h.codesTo_vertical (Nat.not_lt.1 pass) near.1 near.2 hk one)
      refine ⟨a1, a2, _, t, _, h.scan, hnext, h.elements, ht, frame, log, hp, he, ?_⟩
      simp only [b1_toNat, b2_toNat, pass, near, if_false, if_true, and_self]
      have row : (if a1 = b1 then 2 else if b1 < a1 then 2 + (a1 - b1) else 5 + (b1 - a1)) =
          (verticalSymbol ((a1 : Int) - b1)).toNat := by
        rw [symbol]
        split_ifs <;> omega
      exact ⟨by rw [row, hk]; rfl, ha0, hc ▸ opp_ne s.a0c⟩
    · have a1_le := h.a1_le
      have a2_le := (scanLine_eq_ok hnext).2.le
      have w_le : s.w ≤ 2623 := hw
      have len := horizontal_codes_length (n := a1 - s.a0.toInt.toNat) (m := a2 - a1) s.a0c (by omega) (by omega)
      obtain ⟨t, ht, frame, log, hp, he, ha0, hc⟩ := conclude (h.codesTo_horizontal hv ha hw (Nat.not_lt.1 pass) near
        hnext (State.acceptsNext_of_le acc len.2))
      refine ⟨a1, a2, _, t, _, h.scan, hnext, h.elements, ht, frame, log, hp, he, ?_⟩
      simp only [b1_toNat, b2_toNat, pass, near, if_false]
      exact ⟨by rw [opp_eq_ite], ha0, hc⟩

/-! ### The row loop -/

theorem rowLoop_of_end {s : State} (h : s.w ≤ s.a0.toInt) (bound : Nat) : rowLoop bound s = .run s false := by
  cases bound with
  | zero => rfl
  | succ bound => exact if_neg (not_lt.2 h)

theorem rowLoop_of_lt {s : State} (h : s.a0.toInt < s.w) (bound : Nat) :
    rowLoop (bound + 1) s = (rowIteration s).andThen (rowLoop bound) :=
  if_pos h

theorem State.w_eq_of_frame {s t : State} (h : s.LineFrame t) : t.w = s.w := congrArg BitVec.toNat h.width

/-- The row loop ends at the end of the line: every iteration raises A0, so the bound never cuts it (42 R169). -/
theorem rowLoop_reaches_end {bound : Nat} {s t : State} (hle : s.a0.toInt ≤ s.w)
    (hbound : (s.w : Int) - s.a0.toInt ≤ bound) (h : rowLoop bound s = .run t false) : t.a0.toInt = s.w := by
  induction bound generalizing s with
  | zero =>
    cases h
    omega
  | succ bound ih =>
    by_cases ha : s.a0.toInt < s.w
    · rw [rowLoop_of_lt ha] at h
      obtain ⟨u, hu, h⟩ := Flow.andThen_eq_run_false h
      obtain ⟨right, le⟩ := rowIteration_progress ha hu
      have hw := State.w_eq_of_frame (rowIteration_coded hu).frame
      rw [← hw]
      exact ih (by omega) (by omega) h
    · rw [rowLoop_of_end (not_lt.1 ha)] at h
      cases h
      omega

/-- The row loop in front of a sink that accepts five codes for each iteration (42 R169). -/
theorem rowLoop_accepts {bound : Nat} {s : State} (hv : -1 ≤ s.a0.toInt) (hw : s.w ≤ Config.wMax)
    (acc : s.acceptsNext (5 * bound)) : ∃ t codes, rowLoop bound s = .run t false ∧
      t.sinkSide = (s.sent codes).sinkSide ∧ codes.length ≤ 5 * bound ∧
      (1 ≤ bound → s.a0.toInt < s.w → 1 ≤ codes.length) := by
  induction bound generalizing s with
  | zero => exact ⟨s, [], rfl, rfl, by simp, by simp⟩
  | succ bound ih =>
    by_cases ha : s.a0.toInt < s.w
    · obtain ⟨first, _, _, ⟨u, hu, side, _⟩, ge1, le5⟩ :=
        rowIteration_accepts hv ha hw (State.acceptsNext_of_le acc (by omega))
      have coded := rowIteration_coded hu
      have acc' : u.acceptsNext (5 * bound) :=
        State.acceptsNext_of_sinkSide side (State.acceptsNext_sent (State.acceptsNext_of_le acc (by omega)))
      obtain ⟨t, rest, ht, side', len, _⟩ :=
        ih (coded.position hv) (State.w_eq_of_frame coded.frame ▸ hw) acc'
      refine ⟨t, first ++ rest, ?_, ?_, ?_, fun _ _ => ?_⟩
      · rw [rowLoop_of_lt ha, hu, Flow.run_false_andThen, ht]
      · rw [side', State.sinkSide_sent_congr side, State.sent_append]
      · rw [List.length_append]
        omega
      · rw [List.length_append]
        omega
    · exact ⟨s, [], rowLoop_of_end (not_lt.1 ha) _, rfl, by simp, fun _ h => absurd h ha⟩

theorem startRow_toInt (s : State) : s.startRow.a0.toInt = -1 := by
  rw [State.startRow_a0]
  decide

theorem startRow_lt (s : State) : s.startRow.a0.toInt < s.startRow.w := by
  rw [startRow_toInt]
  omega

/-- ROWENC that raises no fault ends at the end of the line (42 R150). -/
theorem encodeRow_reaches_end {s t : State} (h : encodeRow s = .run t false) : t.a0.toInt = s.w :=
  rowLoop_reaches_end (s := s.startRow) (startRow_lt s).le (by rw [startRow_toInt, State.startRow_w]; omega) h

/-- Settles O35: `rowLoop_accepts` from the start of the line, with the bound W + 1. -/
theorem rowencEndsAtTheEndOfTheLine : Obligations.RowencEndsAtTheEndOfTheLine := by
  intro s hp hw acc
  obtain ⟨t, codes, ht, side, len, pos⟩ := rowLoop_accepts (s := s.startRow) (startRow_toInt s).ge hw acc
  have encode : encodeRow s = .run t false := ht
  have coded := encodeRow_coded encode
  rw [State.sinkSide_sent_congr (s := s) (t := s.startRow) rfl, sendingCodesTouchesTheSinkAlone] at side
  obtain ⟨log, rest⟩ := Prod.mk.inj side
  obtain ⟨answers, count⟩ := Prod.mk.inj rest
  refine ⟨t, codes, ?_, encodeRow_reaches_end encode, (coded.clean rfl).1, (coded.clean rfl).2, coded.frame,
    pos (by omega) (startRow_lt s), len, ?_, answers, count⟩
  · rw [exec, execRowenc, unlessError_of_ne hp, encode]
    rfl
  · rw [sendingCodesTouchesTheSinkAlone]
    exact log

end Sys2Proof.Machine
end

section
/-! The faults of ROWENC (42_mode_selector R167, 43_run_length_emitter R184): in front of a sink that answers, every
operation of the line encoder comes to a state, and on the line the only fault it takes is the sink's. -/

namespace Sys2Proof.Machine

open Sys2Proof

/-- The operation comes to a state, and a fault it raised on the way is SinkWriteFailure. -/
def SinkFaultOnly (f : Flow) : Prop :=
  ∃ t b, f = .run t b ∧ (b = true → t.errcode = .sinkWriteFailure)

theorem SinkFaultOnly.of_run (s : State) : SinkFaultOnly (.run s false) := ⟨s, false, rfl, by simp⟩

/-- Following the script, an operation leaves a script that answers. -/
theorem FollowsScript.answering {f : State → Flow} {s t : State} {b : Bool} (hf : FollowsScript f s)
    (h : f s = .run t b) (hs : s.answering) : t.answering := by
  obtain ⟨n, _, _, _, answers, _⟩ := hf t b h
  exact fun hm => hs (List.mem_of_mem_drop (answers ▸ hm))

theorem SinkFaultOnly.andThen {f : Flow} {k : State → Flow} (hf : SinkFaultOnly f)
    (hk : ∀ t, f = .run t false → SinkFaultOnly (k t)) : SinkFaultOnly (f.andThen k) := by
  obtain ⟨t, b, h, fault⟩ := hf
  cases b with
  | true => exact ⟨t, true, by rw [h]; rfl, fault⟩
  | false => exact h ▸ hk t h

/-! ### The operations that send -/

section
variable {s : State}

theorem sinkTransact_sinkFaultOnly (tx : SinkTx) (hs : s.answering) : SinkFaultOnly (sinkTransact tx s) := by
  obtain ⟨t, b, h⟩ := sinkTransact_answers (tx := tx) hs
  refine ⟨t, b, h, fun hb => ?_⟩
  rcases sinkTransact_cases h with ⟨rfl, _⟩ | ⟨_, rfl⟩
  · simp at hb
  · rfl

theorem emitSymbol_sinkFaultOnly {sym : BitVec 6} (hsym : sym.toNat ≤ 8) (hs : s.answering) :
    SinkFaultOnly (emitSymbol sym s) := by
  obtain ⟨k, _, send⟩ := emitSymbol_eq sym hsym
  exact send s ▸ sinkTransact_sinkFaultOnly _ hs

/-- RunLengthRange is out of reach for a run inside the tables (43 R184). -/
theorem runLength_sinkFaultOnly {n : Nat} (c : Colour) (hn : n ≤ 2623) (hs : s.answering) :
    SinkFaultOnly (runLength n c s) := by
  have makeup : SinkFaultOnly (runMakeup n c (s.splitRun n)) := by
    unfold runMakeup
    split
    · exact .of_run _
    · have quot : (BitVec.ofNat 6 (n / 64)).toNat = n / 64 := by rw [BitVec.toNat_ofNat]; omega
      obtain ⟨k, _, send⟩ := sendMakeup_eq c (BitVec.ofNat 6 (n / 64)) (by omega) (by simp only [Config.qMax]; omega)
      rw [if_neg (by simp only [Config.qMax]; omega)]
      exact send (s.splitRun n) ▸ sinkTransact_sinkFaultOnly _ hs
  refine makeup.andThen fun t ht => ?_
  obtain ⟨k, _, send⟩ := sendTerm_eq c t.r
  exact send t ▸ sinkTransact_sinkFaultOnly _ ((runMakeup_followsScript n c _).answering ht hs)

/-! ### The modes -/

theorem passMode_sinkFaultOnly (hs : s.answering) : SinkFaultOnly (passMode s) :=
  (emitSymbol_sinkFaultOnly (by decide) hs).andThen fun _ _ => .of_run _

theorem verticalMode_sinkFaultOnly {sym : BitVec 6} (hsym : sym.toNat ≤ 8) (hs : s.answering) :
    SinkFaultOnly (verticalMode sym s) :=
  (emitSymbol_sinkFaultOnly hsym hs).andThen fun _ _ => .of_run _

theorem sendRuns_sinkFaultOnly (first : s.firstRun ≤ 2623) (second : s.secondRun ≤ 2623) (hs : s.answering) :
    SinkFaultOnly (sendRuns s) := by
  refine (runLength_sinkFaultOnly _ (by omega) hs).andThen fun t ht => ?_
  have keep : t.secondRun = s.secondRun :=
    runLength_keeps (view := State.secondRun) ⟨fun _ _ _ => rfl, fun _ _ => rfl⟩ (fun _ _ => rfl) _ _ s t false ht
  exact (runLength_sinkFaultOnly _ (by omega) ((runLength_followsScript _ _ s).answering ht hs)).andThen
    fun _ _ => .of_run _

theorem horizontalMode_sinkFaultOnly {j n m : Nat} (hw : s.w ≤ Config.wMax)
    (hj : scanLine .cur s.w s.a1.toNat s = .ok j) (first : s.firstRun = n) (hn : n ≤ 2623) (hm : s.a1.toNat + m = j)
    (hs : s.answering) : SinkFaultOnly (horizontalMode s) := by
  rw [horizontalMode, Flow.andThen_assoc]
  refine (emitSymbol_sinkFaultOnly (by decide) hs).andThen fun t ht => ?_
  have answering : t.answering := (sendFrom_followsScript _ s).answering ht hs
  obtain ⟨c, rfl⟩ := emitSymbol_eq_run_false ht
  have j_le : j ≤ s.w := (scanLine_eq_ok hj).2.le
  have w_le : s.w ≤ 2623 := hw
  have scan : scanLine .cur s.w s.a1.toNat (s.record (.writeCode c) true) = .ok j :=
    (scanLine_congr (by rfl) (by rfl) _ _).trans hj
  have hle : s.a1.toNat ≤ j := by omega
  rw [measureRuns_eq (s := s.record (.writeCode c) true) scan first hle, Flow.run_false_andThen]
  refine sendRuns_sinkFaultOnly ?_ ?_ answering
  · show s.firstRun ≤ 2623
    omega
  · show ((BitVec.ofNat 12 j).toNat : Int) - s.a1.toNat ≤ 2623
    rw [State.toNat_ofNat_of_le j_le]
    omega

/-! ### The row loop -/

theorem rowIteration_sinkFaultOnly (hv : -1 ≤ s.a0.toInt) (ha : s.a0.toInt < s.w) (hw : s.w ≤ Config.wMax)
    (hs : s.answering) : SinkFaultOnly (rowIteration s) := by
  obtain ⟨a1, b1, b2, h⟩ := exists_detection hv ha hw
  have mode : SinkFaultOnly (performMode (s.detected a1 b1 b2)) := by
    by_cases pass : b2 < a1
    · rw [performMode_of_pass (h.pass_iff.2 pass)]
      exact passMode_sinkFaultOnly hs
    · by_cases near : -3 ≤ (a1 : Int) - b1 ∧ (a1 : Int) - b1 ≤ 3
      · obtain ⟨_, symbol, _⟩ := verticalSymbol_word near.1 near.2
        rw [performMode_of_vertical (h.vertical_iff.2 ⟨Nat.not_lt.1 pass, near⟩), h.distance]
        exact verticalMode_sinkFaultOnly symbol hs
      · obtain ⟨a2, hnext⟩ := scanLine_total (l := .cur) (start := a1) (by omega) le_rfl hw
        obtain ⟨first, scan, sum⟩ := h.runs hv ha hnext
        have a1_le : a1 ≤ 2623 := h.a1_le.trans hw
        rw [performMode_of_horizontal (h.horizontal (Nat.not_lt.1 pass) near)]
        exact horizontalMode_sinkFaultOnly hw scan first (by omega) sum hs
  rw [h.rowIteration_eq]
  exact mode.andThen fun _ _ => .of_run _

theorem rowLoop_sinkFaultOnly {bound : Nat} (hv : -1 ≤ s.a0.toInt) (hw : s.w ≤ Config.wMax) (hs : s.answering) :
    SinkFaultOnly (rowLoop bound s) := by
  induction bound generalizing s with
  | zero => exact .of_run s
  | succ bound ih =>
    by_cases ha : s.a0.toInt < s.w
    · rw [rowLoop_of_lt ha]
      refine (rowIteration_sinkFaultOnly hv ha hw hs).andThen fun t ht => ?_
      have coded := rowIteration_coded ht
      exact ih (coded.position hv) (State.w_eq_of_frame coded.frame ▸ hw)
        ((rowIteration_followsScript s).answering ht hs)
    · rw [rowLoop_of_end (not_lt.1 ha)]
      exact .of_run s

theorem encodeRow_sinkFaultOnly (hw : s.w ≤ Config.wMax) (hs : s.answering) : SinkFaultOnly (encodeRow s) :=
  rowLoop_sinkFaultOnly (s := s.startRow) (startRow_toInt s).ge hw hs

/-- A ROWENC that took the sink's fault issued the refused code last. -/
theorem encodeRow_refused_last {t : State} (h : encodeRow s = .run t true) (he : t.errcode = .sinkWriteFailure) :
    ∃ e c, t.sinkLog.getLast? = some e ∧ e.tx = .writeCode c ∧ e.accepted = false := by
  obtain ⟨new, log, codes⟩ := encodeRow_sendsCodes s t true h
  obtain ⟨good, bad, log', _, ⟨_, range⟩ | ⟨_, _, e, rfl, refused⟩⟩ := (encodeRow_coded h).log
  · simp [range rfl] at he
  · have new_eq : new = good ++ [e] := by
      rw [log, List.append_assoc] at log'
      exact List.append_cancel_left log'
    obtain ⟨c, hc⟩ := codes e (by simp [new_eq])
    exact ⟨e, c, by simp [log'], hc, refused⟩

end

/-- Settles O36: `encodeRow_sinkFaultOnly`; without a fault the loop reached the end, with one the refused
code is last. -/
theorem rowencFaultsOnlyByTheSink : Obligations.RowencFaultsOnlyByTheSink := by
  intro s hp hw hs
  obtain ⟨t, b, h, fault⟩ := encodeRow_sinkFaultOnly hw hs
  have coded := encodeRow_coded h
  refine ⟨t, by rw [exec, execRowenc, unlessError_of_ne hp, h]; rfl, coded.frame, ?_⟩
  cases b with
  | false => exact .inl ⟨encodeRow_reaches_end h, coded.clean rfl⟩
  | true => exact .inr ⟨(coded.raised rfl).1, fault rfl, encodeRow_refused_last h (fault rfl)⟩

end Sys2Proof.Machine
end

section
/-! Particular lines (42_mode_selector R157, R166, R168): an all-BLACK first row, an all-WHITE row, and a row under an
all-WHITE reference. -/

namespace Sys2Proof.Machine

open Sys2Proof

/-! ### Rows coded in one or two iterations -/

section
variable {s : State}

/-- An iteration that ends at the end of the line ends the row loop. -/
theorem CodesTo.rowLoop_last {codes : List Code} {c : Colour} {bound : Nat} (ha : s.a0.toInt < s.w)
    (h : CodesTo (rowIteration s) s codes s.w c) : CodesTo (rowLoop (bound + 1) s) s codes s.w c := by
  obtain ⟨t, ht, side, ha0, hc⟩ := h
  have hw := State.w_eq_of_frame (rowIteration_coded ht).frame
  exact ⟨t, by rw [rowLoop_of_lt ha, ht, Flow.run_false_andThen, rowLoop_of_end (by omega)], side, ha0, hc⟩

/-- ROWENC from what its row loop comes to. -/
theorem exec_rowenc_of_codesTo {codes : List Code} {c : Colour} (hp : s.phase ≠ .error)
    (h : CodesTo (rowLoop (s.w + 1) s.startRow) s.startRow codes s.w c) :
    ∃ t, exec .rowenc s = .next t ∧ t.sinkLog = (s.sent codes).sinkLog ∧ t.a0.toInt = s.w := by
  obtain ⟨t, ht, side, ha0, _⟩ := h
  have encode : encodeRow s = .run t false := ht
  rw [State.sinkSide_sent_congr (s := s) (t := s.startRow) rfl] at side
  exact ⟨t, by rw [exec, execRowenc, unlessError_of_ne hp, encode]; rfl, congrArg Prod.fst side, ha0⟩

/-- An iteration whose A1 and B1 are both the end of the line is V0, the last code of the row (42 R157). -/
theorem codesTo_v0_at_end (href : s.blankRef) (hv : -1 ≤ s.a0.toInt) (ha : s.a0.toInt < s.w)
    (hw : s.w ≤ Config.wMax) (hscan : scanLine .cur s.w s.a0.toInt s = .ok s.w) (acc : s.acceptsNext 1) :
    CodesTo (rowIteration s) s [⟨0x1, 1⟩] s.w (opp s.a0c) :=
  (Detection.of_blankRef href hv ha hw hscan).codesTo_vertical le_rfl (by omega) (by omega)
    (by rw [Int.sub_self]; decide) acc

end

/-- Settles O39: from the virtual start the scan of CUR answers the end, so the first iteration is the last. -/
theorem allWhiteRowIsOneV0 : Obligations.AllWhiteRowIsOneV0 := by
  intro s hp hcur href _ hw acc
  have start := startRow_lt s
  have hv : -1 ≤ s.startRow.a0.toInt := (startRow_toInt s).ge
  have scan : scanLine .cur s.startRow.w s.startRow.a0.toInt s.startRow = .ok s.startRow.w :=
    scanLine_uniform (l := .cur) hcur hv start (fun _ => rfl) hw
  exact exec_rowenc_of_codesTo hp (CodesTo.rowLoop_last start
    (codesTo_v0_at_end (s := s.startRow) href hv start hw scan acc))

/-- A first row whose first pixel is BLACK: detection finds A1 = 0. -/
theorem detection_black_first {s : State} (hr : s.refv = false) (hpixel : s.cur.pixel 0 = .black)
    (hw : s.w ≤ Config.wMax) : Detection s.startRow 0 s.w s.w :=
  .of_blankRef (s := s.startRow) (.inl hr) (startRow_toInt s).ge (startRow_lt s) hw
    (by rw [startRow_toInt]; exact scanLine_black_first (l := .cur) hpixel hw)

/-- An all-BLACK first row of one, two or three pixels (42 R161 to R163). -/
theorem codesTo_black_narrow {s : State} {k : Code} (hr : s.refv = false) (hcur : ∀ i < s.w, s.cur.pixel i = .black)
    (h1 : 1 ≤ s.w) (h3 : s.w ≤ 3) (hk : wordAt .mode (verticalSymbol (-(s.w : Int))).toNat = some k)
    (acc : s.acceptsNext 2) :
    ∃ c, CodesTo (rowLoop (s.w + 1) s.startRow) s.startRow [k, ⟨0x1, 1⟩] s.w c := by
  have hw : s.w ≤ Config.wMax := h3.trans (by decide)
  have first : CodesTo (rowIteration s.startRow) s.startRow [k] 0 .black :=
    (detection_black_first hr (hcur 0 h1) hw).codesTo_vertical (Nat.zero_le _) (by omega) (by omega)
      (by rw [Int.ofNat_zero, Int.zero_sub]; exact hk) (State.acceptsNext_of_le (m := 1) (n := 2) acc (by omega))
  obtain ⟨t, ht, side, ha0, hc⟩ := first
  have frame : s.startRow.LineFrame t := (rowIteration_coded ht).frame
  have w_eq : t.w = s.w := (State.w_eq_of_frame frame).trans s.startRow_w
  have cur : t.cur = s.cur := frame.cur
  have inside : t.a0.toInt < t.w := by omega
  have scan : scanLine .cur t.w t.a0.toInt t = .ok t.w :=
    scanLine_uniform (l := .cur) (c := .black) (fun i hi => by rw [State.buffer, cur]; exact hcur i (w_eq ▸ hi))
      (by omega) inside (by omega) (w_eq ▸ hw)
  have last := CodesTo.rowLoop_last (bound := s.w - 1) inside (codesTo_v0_at_end (.inl (frame.refv.trans hr))
    (by omega) inside (w_eq ▸ hw) scan (State.acceptsNext_of_sinkSide side (State.acceptsNext_record _ _ acc)))
  obtain ⟨u, hu, side', ha0', _⟩ := last
  rw [Nat.sub_add_cancel h1] at hu
  refine ⟨_, u, ?_, ?_, ha0'.trans (by rw [w_eq]), rfl⟩
  · rw [rowLoop_of_lt (startRow_lt s), ht, Flow.run_false_andThen, hu]
  · rw [side', State.sinkSide_sent_congr side]
    rfl

/-- An all-BLACK first row of four pixels or more (42 R164, R166). -/
theorem codesTo_black_wide {s : State} (hr : s.refv = false) (hcur : ∀ i < s.w, s.cur.pixel i = .black)
    (h4 : 4 ≤ s.w) (hw : s.w ≤ 2623) (acc : s.acceptsNext 5) :
    CodesTo (rowLoop (s.w + 1) s.startRow) s.startRow (⟨0x1, 3⟩ :: ⟨0x35, 8⟩ :: runCodes s.w .black) s.w .white := by
  have scan : scanLine .cur s.w (0 : Nat) s.startRow = .ok s.w :=
    scanLine_uniform (s := s.startRow) (l := .cur) hcur (by omega) (by show (0 : Int) < s.w; omega) (by simp) hw
  have codes : runCodes (0 - s.startRow.a0.toInt.toNat) s.startRow.a0c ++ runCodes (s.w - 0) (opp s.startRow.a0c) =
      ⟨0x35, 8⟩ :: runCodes s.w .black := by
    rw [Nat.zero_sub]
    rfl
  have len := horizontal_codes_length (n := 0) (m := s.w) .white (by omega) hw
  have iteration := (detection_black_first hr (hcur 0 (by omega)) hw).codesTo_horizontal (startRow_toInt s).ge
    (startRow_lt s) hw (Nat.zero_le _) (by omega) scan
  rw [codes] at iteration
  exact CodesTo.rowLoop_last (startRow_lt s) (iteration (State.acceptsNext_of_le (n := 5) acc len.2))

/-- Settles O38: in the first iteration A1 = 0 and B1 = W; then V0 ends a narrow row and nothing is left of
a wide one. -/
theorem allBlackFirstRow : Obligations.AllBlackFirstRow := by
  intro s hp hr hcur h1 hw acc
  have narrow {k : Code} (h3 : s.w ≤ 3) (hk : wordAt .mode (verticalSymbol (-(s.w : Int))).toNat = some k) :
      ∃ t, exec .rowenc s = .next t ∧ t.sinkLog = (s.sent [k, ⟨0x1, 1⟩]).sinkLog := by
    obtain ⟨_, codes⟩ := codesTo_black_narrow hr hcur h1 h3 hk (State.acceptsNext_of_le acc (by omega))
    obtain ⟨t, ht, log, _⟩ := exec_rowenc_of_codesTo hp codes
    exact ⟨t, ht, log⟩
  split_ifs with w1 w2 w3
  · exact narrow (by omega) (by rw [w1]; decide)
  · exact narrow (by omega) (by rw [w2]; decide)
  · exact narrow (by omega) (by rw [w3]; decide)
  · obtain ⟨t, ht, log, _⟩ := exec_rowenc_of_codesTo hp (codesTo_black_wide hr hcur (by omega) hw acc)
    exact ⟨t, ht, log⟩

/-! ### With and without an all-WHITE reference -/

/-- The same state without a usable reference. -/
def State.noRef (s : State) : State :=
  { s with refv := false }

/-- Two runs that differ in REFV alone. -/
abbrev NoRef (t v : State) : Prop := v = t.noRef

/-- Two such sequences in lockstep, where the second parts are on states that differ in REFV alone. -/
theorem InStep.andThen_noRef {f g : Flow} {k : State → Flow} (h : InStep NoRef f g)
    (hk : ∀ t, f = .run t false → InStep NoRef (k t) (k t.noRef)) : InStep NoRef (f.andThen k) (g.andThen k) :=
  h.andThen fun t _ ht _ (hv : _ = t.noRef) => hv ▸ hk t ht

section
variable (s : State)

theorem sinkTransact_noRef (tx : SinkTx) : InStep NoRef (sinkTransact tx s) (sinkTransact tx s.noRef) := by
  intro t b h
  unfold sinkTransact at h ⊢
  rw [show s.noRef.sinkVerdict = s.sinkVerdict from rfl]
  cases hv : s.sinkVerdict with
  | none => simp [hv] at h
  | some accepted =>
    rw [hv] at h
    cases accepted <;> (cases h; exact ⟨_, rfl, rfl⟩)

theorem sendFrom_noRef (addr : BitVec 9) : InStep NoRef (sendFrom addr s) (sendFrom addr s.noRef) := by
  unfold sendFrom
  cases romRead addr with
  | error why => exact .refuse
  | ok c => exact sinkTransact_noRef s _

theorem runLength_noRef (n : Nat) (c : Colour) : InStep NoRef (runLength n c s) (runLength n c s.noRef) := by
  have makeup : InStep NoRef (runMakeup n c (s.splitRun n)) (runMakeup n c (s.noRef.splitRun n)) := by
    unfold runMakeup
    split
    · exact .of_run rfl
    · split
      · exact .of_run rfl
      · exact sendFrom_noRef (s.splitRun n) _
  exact makeup.andThen_noRef fun t _ => sendFrom_noRef t _

theorem passMode_noRef : InStep NoRef (passMode s) (passMode s.noRef) :=
  (sendFrom_noRef s _).andThen_noRef fun _ _ => .of_run rfl

theorem verticalMode_noRef (sym : BitVec 6) : InStep NoRef (verticalMode sym s) (verticalMode sym s.noRef) :=
  (sendFrom_noRef s _).andThen_noRef fun _ _ => .of_run rfl

theorem measureRuns_noRef : InStep NoRef (measureRuns s) (measureRuns s.noRef) := by
  intro t b h
  obtain ⟨j, rfl, hj, rfl, first, second⟩ := measureRuns_eq_run h
  have scan : scanLine .cur s.noRef.w s.noRef.a1.toNat s.noRef = .ok j :=
    (scanLine_congr (by rfl) (by rfl) _ _).trans hj
  refine ⟨_, ?_, rfl⟩
  rw [measureRuns, scan]
  exact if_neg fun h => h.elim (not_lt.2 first) (not_lt.2 second)

theorem sendRuns_noRef : InStep NoRef (sendRuns s) (sendRuns s.noRef) :=
  (runLength_noRef s _ _).andThen_noRef fun t _ => (runLength_noRef t _ _).andThen_noRef fun _ _ => .of_run rfl

theorem horizontalMode_noRef : InStep NoRef (horizontalMode s) (horizontalMode s.noRef) :=
  ((sendFrom_noRef s _).andThen_noRef fun t _ => measureRuns_noRef t).andThen_noRef fun t _ => sendRuns_noRef t

theorem performMode_noRef : InStep NoRef (performMode s) (performMode s.noRef) := by
  unfold performMode
  rw [show chooseMode s.noRef = chooseMode s from rfl]
  cases chooseMode s with
  | pass => exact passMode_noRef s
  | vertical => exact verticalMode_noRef s.writeDistance _
  | horizontal => exact horizontalMode_noRef s.writeDistance

end

/-- With an all-WHITE reference one iteration is what it is without a reference (42 R168). -/
theorem rowIteration_noRef {s : State} (href : ∀ i < s.w, s.ref.pixel i = .white) (hv : -1 ≤ s.a0.toInt)
    (ha : s.a0.toInt < s.w) (hw : s.w ≤ Config.wMax) : InStep NoRef (rowIteration s) (rowIteration s.noRef) := by
  obtain ⟨a1, hscan⟩ := scanLine_total (l := .cur) hv le_rfl hw
  have scan' : scanLine .cur s.noRef.w s.noRef.a0.toInt s.noRef = .ok a1 :=
    (scanLine_congr (by rfl) (by rfl) _ _).trans hscan
  rw [(Detection.of_blankRef (.inr href) hv ha hw hscan).rowIteration_eq,
    (Detection.of_blankRef (s := s.noRef) (.inl rfl) hv ha hw scan').rowIteration_eq]
  exact (performMode_noRef (s.detected a1 s.w s.w)).andThen_noRef fun _ _ => .of_run rfl

theorem rowLoop_noRef {bound : Nat} {s : State} (href : ∀ i < s.w, s.ref.pixel i = .white) (hv : -1 ≤ s.a0.toInt)
    (hw : s.w ≤ Config.wMax) : InStep NoRef (rowLoop bound s) (rowLoop bound s.noRef) := by
  induction bound generalizing s with
  | zero => exact .of_run rfl
  | succ bound ih =>
    by_cases ha : s.a0.toInt < s.w
    · rw [rowLoop_of_lt ha, rowLoop_of_lt (s := s.noRef) ha]
      refine (rowIteration_noRef href hv ha hw).andThen_noRef fun t ht => ?_
      have coded := rowIteration_coded ht
      have w_eq := State.w_eq_of_frame coded.frame
      exact ih (fun i hi => by rw [coded.frame.ref]; exact href i (w_eq ▸ hi)) (coded.position hv) (w_eq ▸ hw)
    · rw [rowLoop_of_end (not_lt.1 ha), rowLoop_of_end (s := s.noRef) (not_lt.1 ha)]
      exact .of_run rfl

/-- Settles O40: ROWENC comes to a state by `encodeRow_sinkFaultOnly`, and without the reference to the same one. -/
theorem allWhiteReferenceEqualsNoReference : Obligations.AllWhiteReferenceEqualsNoReference := by
  intro s hp _ hw hs href
  obtain ⟨t, b, h, _⟩ := encodeRow_sinkFaultOnly hw hs
  obtain ⟨v, hv, rfl⟩ := rowLoop_noRef (s := s.startRow) href (startRow_toInt s).ge hw t b h
  have encode : encodeRow s.noRef = .run t.noRef b := hv
  refine ⟨t, ?_, ?_⟩
  · rw [exec, execRowenc, unlessError_of_ne hp, h]
    rfl
  · show exec .rowenc s.noRef = .next t.noRef
    rw [exec, execRowenc, unlessError_of_ne (s := s.noRef) hp, encode]
    rfl

end Sys2Proof.Machine
end

section
/-! The run codes and RUN in front of the sink (43_run_length_emitter R181 to R184): a code word issued alone sends the
word of its row, RUN sends the codes of the run's split, and beyond the tables it raises before anything is sent. -/

namespace Sys2Proof.Machine

open Sys2Proof

/-! ### The run codes issued alone -/

/-- A row's word as the code the sink is sent. -/
def codeOfRow (r : CodeRow) : Code :=
  ⟨BitVec.ofNat 24 r.value, r.len⟩

theorem wordAt_of_getElem? {ctx : CodeContext} {k : Nat} {r : CodeRow} (h : (codeWords ctx)[k]? = some r) :
    wordAt ctx k = some (codeOfRow r) :=
  congrArg (Option.map codeOfRow) h

/-- The step of RUN that sends row `k` of a colour's words: the terminating step in rows 0 to 63, and from row 64 on the
makeup step (43 R182, R183). -/
def sendRow (c : Colour) (k : Nat) (s : State) : Flow :=
  if k < 64 then sendTerm c (BitVec.ofNat 6 k) s else sendMakeup c (BitVec.ofNat 6 (k - 63)) s

theorem sendRow_eq {c : Colour} {k : Nat} {r : CodeRow} (h : (codeWords (runContext c))[k]? = some r) :
    sendRow c k = sinkTransact (.writeCode (codeOfRow r)) := by
  have rows : (codeWords (runContext c)).length = 104 := by cases c <;> rfl
  have inside : k < 104 := rows ▸ (List.getElem?_eq_some_iff.1 h).1
  have word := wordAt_of_getElem? h
  funext s
  unfold sendRow
  split
  · have toNat : (BitVec.ofNat 6 k).toNat = k := Nat.mod_eq_of_lt ‹_›
    obtain ⟨w, hw, send⟩ := sendTerm_eq c (BitVec.ofNat 6 k)
    rw [toNat, word, Option.some_inj] at hw
    rw [send, hw]
  · have toNat : (BitVec.ofNat 6 (k - 63)).toNat = k - 63 := Nat.mod_eq_of_lt (by omega)
    obtain ⟨w, hw, send⟩ := sendMakeup_eq c (BitVec.ofNat 6 (k - 63)) (by omega) (by rw [toNat, Config.qMax]; omega)
    rw [toNat, show 63 + (k - 63) = k by omega, word, Option.some_inj] at hw
    rw [send, hw]

/-- Where a colour's first rows stand for operations that are RUN's steps in the same order, each of them is the
transaction of its own word. -/
theorem exec_eq_transact_of_steps {c : Colour} {rows : List CodeRow} (hrows : rows <+: codeWords (runContext c))
    (hexec : rows.map (fun r => exec r.instr) = (List.range rows.length).map fun k => unlessError (sendRow c k)) :
    ∀ r ∈ rows, exec r.instr = unlessError (sinkTransact (.writeCode (codeOfRow r))) := by
  intro r hr
  obtain ⟨k, hk, rfl⟩ := List.mem_iff_getElem.1 hr
  have step : exec rows[k].instr = unlessError (sendRow c k) := by
    simpa [hk] using congrArg (·[k]?) hexec
  have row : (codeWords (runContext c))[k]? = some rows[k] := List.prefix_iff_getElem?.1 hrows k hk
  rw [step, sendRow_eq row]

/-- All 104 white rows, the extended makeup words among them: row by row, `exec` of the operation is RUN's step. -/
theorem exec_whiteRow_eq_transact : ∀ r ∈ codeWords .white,
    exec r.instr = unlessError (sinkTransact (.writeCode (codeOfRow r))) :=
  exec_eq_transact_of_steps (c := .white) List.prefix_rfl rfl

/-- The black rows without the extended makeup words, whose operations read the white copy (log entry 22). -/
theorem exec_blackRow_eq_transact : ∀ r ∈ blackTermWordsLow ++ blackTermWordsHigh ++ blackMakeupWords,
    exec r.instr = unlessError (sinkTransact (.writeCode (codeOfRow r))) :=
  exec_eq_transact_of_steps (c := .black) (List.prefix_append _ _) rfl

/-- Every run code issued alone sends the word of its row. -/
theorem exec_row_accepts {s : State} (hp : s.phase ≠ .error) (ha : s.acceptsNext 1) {r : CodeRow}
    (hr : r ∈ codeWords .white ∨ r ∈ blackTermWordsLow ++ blackTermWordsHigh ++ blackMakeupWords) :
    exec r.instr s = .next (s.sent [codeOfRow r]) := by
  rw [hr.elim (exec_whiteRow_eq_transact r) (exec_blackRow_eq_transact r), unlessError_of_ne hp,
    sinkTransact_accepts (n := 0) ha]
  rfl

/-- Settles O17: the statement's list is that of the terminating words, white and then black. -/
theorem terminatingCodesAreSent : Obligations.TerminatingCodesAreSent := by
  intro s hp ha row hrow
  obtain ⟨r, hr, rfl⟩ : ∃ r ∈ (whiteTermWordsLow ++ whiteTermWordsHigh) ++
      (blackTermWordsLow ++ blackTermWordsHigh), (r.instr, r.value, r.len) = row := List.mem_map.1 hrow
  refine exec_row_accepts hp ha ((List.mem_append.1 hr).imp (fun white => ?_) fun black => ?_)
  · exact List.mem_append_left _ (List.mem_append_left _ white)
  · exact List.mem_append_left _ black

/-- Settles O18: the statement's list is that of the makeup words, white, black and then extended. -/
theorem makeupCodesAreSent : Obligations.MakeupCodesAreSent := by
  intro s hp ha row hrow
  obtain ⟨r, hr, rfl⟩ : ∃ r ∈ whiteMakeupWords ++ blackMakeupWords ++ sharedMakeupWords,
      (r.instr, r.value, r.len) = row := List.mem_map.1 hrow
  rw [List.mem_append, List.mem_append] at hr
  refine exec_row_accepts hp ha ?_
  rcases hr with (white | black) | shared
  · exact .inl (List.mem_append_left _ (List.mem_append_right _ white))
  · exact .inr (List.mem_append_right _ black)
  · exact .inl (List.mem_append_right _ shared)

/-! ### RUN -/

/-- Settles O25: `runLength_eq_sent` under its gate. -/
theorem runSendsMakeupThenTerminating : Obligations.RunSendsMakeupThenTerminating := by
  intro n c s hn hp ha
  rw [exec, execRun, unlessError_of_ne hp, runLength_eq_sent hn ha]
  rfl

/-- A run beyond the tables writes Q and R and raises, in place of the makeup step (43 R184). -/
theorem runLength_beyond {n : Nat} (hn : 2623 < n) (c : Colour) (s : State) :
    runLength n c s = .run ((s.splitRun n).raise .runLengthRange) true := by
  have quotient : Config.qMax < n / 64 := by rw [Config.qMax]; omega
  rw [runLength, runMakeup, if_neg (by omega), if_pos quotient, Flow.run_true_andThen]

/-- Settles O26: `runLength_beyond` under its gate. -/
theorem runBeyondTheTablesRaises : Obligations.RunBeyondTheTablesRaises := by
  intro n c s hn hp
  rw [exec, execRun, unlessError_of_ne hp, runLength_beyond hn]
  rfl

/-! ### Negative runs -/

/-- The measurement refuses where a run would be negative: the first one, or, with A1 right of the line's end, the
second one, as A2 is at most that end (42 R164, 43 R184). -/
theorem measureRuns_refuses {s : State} (hw : s.w ≤ Config.wMax)
    (h : (s.a1.toNat : Int) < s.a0.toInt ∨ s.w < s.a1.toNat) : measureRuns s = .refuse .negativeRunLength := by
  obtain ⟨j, hj⟩ := scanLine_total (l := .cur) (start := s.a1.toNat) (by omega) (le_refl s.w) hw
  have negative : ({ s with a2 := BitVec.ofNat 12 j } : State).firstRun < 0 ∨
      ({ s with a2 := BitVec.ofNat 12 j } : State).secondRun < 0 := by
    refine h.imp (fun left => ?_) fun right => ?_
    · show (s.a1.toNat : Int) - s.a0.toInt - _ < 0
      split <;> omega
    · have j_le : j ≤ s.w := (scanLine_eq_ok hj).2.le
      show ((BitVec.ofNat 12 j).toNat : Int) - s.a1.toNat < 0
      rw [State.toNat_ofNat_of_le j_le]
      omega
  unfold measureRuns
  simp only [hj]
  exact if_pos negative

/-- Settles O30: the code of H is accepted, and then the measurement refuses. -/
theorem horizontalModeRefusesNegativeRuns : Obligations.HorizontalModeRefusesNegativeRuns := by
  intro s hp ha hw _ h
  have prefixed : emitSymbol 1 s = .run (s.sent [⟨0x1, 3⟩]) false :=
    emitSymbol_accepts (by decide) (by decide) ha
  have refused : measureRuns (s.sent [⟨0x1, 3⟩]) = .refuse .negativeRunLength := measureRuns_refuses hw h
  rw [exec, execH, unlessError_of_ne hp, horizontalMode, prefixed, Flow.run_false_andThen, refused,
    Flow.refuse_andThen]
  rfl

end Sys2Proof.Machine
end

section
/-! The phase of the page sequencer (44_page_sequencer R190, R200): what the two phase gates come to in each phase, and
which operation moves PHASE where. -/

namespace Sys2Proof.Machine

open Sys2Proof

/-! ### The gates -/

section
variable {f : State → Flow} {s : State}

theorem whenPage_of_error (hp : s.phase = .error) : whenPage f s = .next s := if_pos hp

theorem whenPage_of_page (hp : s.phase = .page) : whenPage f s = (f s).outcome := by
  simp [whenPage, hp]

theorem whenPage_of_closed (hp : s.phase = .idle ∨ s.phase = .done) :
    whenPage f s = .next (s.raise .protocolError) := by
  rcases hp with hp | hp <;> simp [whenPage, hp]

theorem unlessPage_of_error (hp : s.phase = .error) : unlessPage f s = .next s := if_pos hp

theorem unlessPage_of_page (hp : s.phase = .page) : unlessPage f s = .next (s.raise .protocolError) := by
  simp [unlessPage, hp]

theorem unlessPage_of_closed (hp : s.phase = .idle ∨ s.phase = .done) : unlessPage f s = (f s).outcome := by
  rcases hp with hp | hp <;> simp [unlessPage, hp]

end

/-! ### Which operation moves PHASE where -/

/-- The moves of PHASE an operation may make (R190). -/
inductive PhaseMove : Instr → Phase → Phase → Prop
  | stays {i p} : PhaseMove i p p
  | faults {i p} : PhaseMove i p .error
  | opens {p} (hp : p = .idle ∨ p = .done) : PhaseMove .init p .page
  | closes : PhaseMove .eofbCmd .page .done
  | clears {p} : PhaseMove .clear p .idle

theorem PhaseMove.of_eq {i : Instr} {p q : Phase} (h : q = p) : PhaseMove i p q := h ▸ .stays

theorem PhaseMove.of_error {i : Instr} {p q : Phase} (h : q = .error) : PhaseMove i p q := h ▸ .faults

/-- Coding a line keeps the phase or takes a fault. -/
theorem Coded.phaseMove {i : Instr} {s t : State} {b : Bool} (h : Coded s t b) : PhaseMove i s.phase t.phase := by
  cases b with
  | false => exact .of_eq (h.clean rfl).1
  | true => exact .of_error (h.raised rfl).1

theorem HostEffect.phaseMove {i : Instr} {s t : State} (h : HostEffect i s t) : PhaseMove i s.phase t.phase := by
  cases h with
  | raised _ _ => exact .faults
  | init hp _ _ => exact .opens hp
  | rowFails _ _ h => exact (encodeRow_coded h).phaseMove
  | row _ _ h ha =>
    have adopted := ((encodeRow_coded h).clean rfl).1
    exact adopted ▸ (alignIfAsked_coded ha).phaseMove
  | eofbFails _ _ => exact .faults
  | finalizeFails _ _ => exact .faults
  | eofb hp _ => exact hp ▸ .closes
  | clear => exact .clears
  | _ => exact .stays

theorem exec_phaseMove {i : Instr} {s t : State} (h : exec i s = .next t) : PhaseMove i s.phase t.phase := by
  rcases exec_cases h with ⟨_, rfl⟩ | ⟨_, b, hc⟩ | ⟨v, rfl⟩ | hi
  · exact .stays
  · exact hc.phaseMove
  · exact .stays
  · exact (hostOp_cases hi h).phaseMove

/-- Of the accesses without a row a reserved command faults and a reset goes to IDLE; the others keep the phase. -/
theorem AccessEffect.phase {a : HostAccess} {s t : State} (h : AccessEffect a s t) :
    t.phase = s.phase ∨ t.phase = .error ∨
      ((a = .hardwareReset ∨ ∃ offset data n, a = .resetDuring offset data n) ∧ t.phase = .idle) := by
  cases h with
  | reserved _ => exact .inr (.inl rfl)
  | reset sent ha => exact .inr (.inr ⟨ha, rfl⟩)
  | _ => exact .inl rfl

/-- Settles O56: `exec_phaseMove` for the operations, `AccessEffect.phase` for the accesses without a row. -/
theorem phaseChangesOnlyAsStated : Obligations.PhaseChangesOnlyAsStated := by
  intro s t req rest hin h changed
  rcases step_cases hin h with ⟨i, hd, he⟩ | ⟨a, hd, ha⟩
  · have move : PhaseMove i s.phase t.phase := exec_phaseMove (s := { s with inbox := rest }) he
    generalize s.phase = p, t.phase = q at move changed ⊢
    cases move with
    | stays => exact absurd rfl changed
    | faults => exact .inl rfl
    | opens hp => exact .inr (.inl ⟨hd, hp, rfl⟩)
    | closes => exact .inr (.inr (.inl ⟨hd, rfl, rfl⟩))
    | clears => exact .inr (.inr (.inr ⟨.inl hd, rfl⟩))
  · rcases (hostAccess_cases ha).phase with same | fault | ⟨reset, idle⟩
    · exact absurd same changed
    · exact .inl fault
    · exact .inr (.inr (.inr ⟨.inr (isReset_of_decode hd reset), idle⟩))

/-! ### Illegal operations, the configuration writes, CLEAR -/

theorem exec_wrWidth_eq (w : BitVec 12) (s : State) :
    exec (.wrWidth w) s = unlessPage (fun t => .run { t with width := w } false) s := rfl

theorem exec_wrCtrl_eq (ba : Bool) (s : State) :
    exec (.wrCtrl ba) s = unlessPage (fun t => .run { t with ba := ba } false) s := rfl

theorem exec_wrWidth_of_page (w : BitVec 12) {s : State} (hp : s.phase = .page) :
    exec (.wrWidth w) s = .next (s.raise .protocolError) := by
  rw [exec_wrWidth_eq, unlessPage_of_page hp]

theorem exec_wrCtrl_of_page (ba : Bool) {s : State} (hp : s.phase = .page) :
    exec (.wrCtrl ba) s = .next (s.raise .protocolError) := by
  rw [exec_wrCtrl_eq, unlessPage_of_page hp]

/-- A reserved command code decodes to the access that answers it (30_encoding R102). -/
theorem decode_reserved {data : Word} (h : data.toNat % 8 ∈ [0, 5, 6, 7]) :
    decode (.hostWrite 0x08 data) = .access .reservedCommand := by
  simp only [List.mem_cons, List.not_mem_nil, or_false] at h
  show decodeCommand data = _
  rw [decodeCommand_eq, if_neg (by omega), if_neg (by omega), if_neg (by omega), if_neg (by omega)]

/-- Settles O54: the gates in the phases an operation is not legal in, and the access of a reserved command. -/
theorem illegalOperationsRaiseProtocolError : Obligations.IllegalOperationsRaiseProtocolError := by
  intro s w ba c
  refine ⟨fun hp i hi => ?_, fun hp i hi => ?_, fun data hp hdata hin => ?_⟩
  · simp only [List.mem_cons, List.not_mem_nil, or_false] at hi
    rcases hi with rfl | rfl | rfl
    · exact exec_wrWidth_of_page w hp
    · exact exec_wrCtrl_of_page ba hp
    · exact unlessPage_of_page hp
  · simp only [List.mem_cons, List.not_mem_nil, or_false] at hi
    rcases hi with rfl | rfl | rfl <;> exact whenPage_of_closed hp
  · rw [step_of_decode_access hin (decode_reserved hdata)]
    exact if_neg hp

/-- Settles O42: both writes stand behind the gate for operations between pages. -/
theorem configurationWrites : Obligations.ConfigurationWrites := by
  refine fun s w ba => ⟨fun hp => ?_, fun hp => ⟨exec_wrWidth_of_page w hp, exec_wrCtrl_of_page ba hp⟩, fun hp => ?_⟩
  · rw [exec_wrWidth_eq, exec_wrCtrl_eq, unlessPage_of_error hp, unlessPage_of_error hp]
    exact ⟨rfl, rfl⟩
  · rw [exec_wrWidth_eq, exec_wrCtrl_eq, unlessPage_of_closed hp, unlessPage_of_closed hp]
    exact ⟨rfl, rfl⟩

/-- Settles O52: CLEAR's state has no gate before it, and its fields are the laws of `State.cleared`. -/
theorem clearReturnsToIdle : Obligations.ClearReturnsToIdle :=
  fun s => ⟨s.cleared, rfl, s.cleared_phase, s.cleared_errcode, s.cleared_refv, s.cleared_loadcnt, s.cleared_width,
    s.cleared_ba, s.cleared_a0, s.cleared_a0c, s.cleared_sinkLog, s.cleared_sinkAnswers, s.cleared_txCount,
    s.cleared_inbox, s.cleared_result⟩

end Sys2Proof.Machine
end

section
/-! Register reads (44_page_sequencer R198): the words the registers read as, and the offsets that read 0. -/

namespace Sys2Proof.Machine

open Sys2Proof

/-- STATUS in the numbers of PHASE and ERRCODE (10_state R33). -/
theorem State.statusWord_eq {s : State} {p e : Nat} (hp : s.phase.toBits = p) (he : s.errcode.toBits = e) :
    s.statusWord = BitVec.ofNat 32 (p + 16 * e + 256 * (if s.refv then 1 else 0)) := by
  rw [State.statusWord, hp, he]
  cases s.refv <;> rfl

theorem State.loadcntWord_eq (s : State) : s.loadcntWord = BitVec.ofNat 32 s.loadcnt.toNat :=
  (BitVec.ofNat_toNat 32 s.loadcnt).symm

theorem State.widthWord_eq (s : State) : s.widthWord = BitVec.ofNat 32 s.w :=
  (BitVec.ofNat_toNat 32 s.width).symm

theorem State.ctrlWord_eq (s : State) : s.ctrlWord = if s.ba then 1 else 0 := by
  unfold State.ctrlWord
  cases s.ba <;> rfl

/-- An offset of no readable register reads 0 (R32, R34, R36). -/
theorem decodeRead_of_unreadable {offset : Word} (h : offset ∉ ([0x00, 0x04, 0x0C, 0x14] : List Word)) :
    decodeRead offset = .access .readZero := by
  simp only [List.mem_cons, List.not_mem_nil, or_false, not_or] at h
  obtain ⟨width, ctrl, status, loadcnt⟩ := h
  unfold decodeRead
  split
  · exact absurd (BitVec.eq_of_toNat_eq ‹_›) width
  · exact absurd (BitVec.eq_of_toNat_eq ‹_›) ctrl
  · exact absurd (BitVec.eq_of_toNat_eq ‹_›) status
  · exact absurd (BitVec.eq_of_toNat_eq ‹_›) loadcnt
  · rfl

/-- Settles O53: the words of the four registers, and `decodeRead_of_unreadable` for the other offsets. -/
theorem readsReturnTheRegisters : Obligations.ReadsReturnTheRegisters := by
  intro s
  refine ⟨fun p hp e he phase errcode => ?_, ?_, fun offset hin => ⟨?_, ?_, fun unreadable => ?_⟩⟩
  · have phaseBits : ∀ p ∈ ([(.idle, 0), (.page, 1), (.done, 2), (.error, 3)] : List (Phase × Nat)),
        p.1.toBits = p.2 := by decide
    have errBits : ∀ e ∈ ([(.none, 0), (.sinkWriteFailure, 1), (.malformedInput, 2), (.configError, 3),
        (.protocolError, 4), (.runLengthRange, 5)] : List (ErrCode × Nat)), e.1.toBits = e.2 := by decide
    rw [← State.statusWord_eq (phase ▸ phaseBits p hp) (errcode ▸ errBits e he)]
    rfl
  · rw [← State.loadcntWord_eq]
    rfl
  · rintro rfl
    rw [step_of_decode_access hin (a := .readWidth) rfl, ← State.widthWord_eq]
    rfl
  · rintro rfl
    rw [step_of_decode_access hin (a := .readCtrl) rfl, ← State.ctrlWord_eq]
    rfl
  · rw [step_of_decode_access hin (decodeRead_of_unreadable unreadable)]
    rfl

end Sys2Proof.Machine
end

section
/-! Pushing pixels (44_page_sequencer R193): one PIX with room in the line, and a list of them waiting in the inbox. -/

namespace Sys2Proof.Machine

open Sys2Proof

/-- The state after a pixel was stored at LOADCNT and counted. -/
def State.pushed (c : Colour) (s : State) : State :=
  { s with cur := s.cur.write s.loadcnt.toNat c, loadcnt := s.loadcnt + 1 }

theorem State.pixel_pushed (c : Colour) (s : State) (i : Nat) :
    (s.pushed c).cur.pixel i = if i = s.loadcnt.toNat then c else s.cur.pixel i := by
  split
  · subst i
    exact Line.pixel_write_same _ _ _
  · exact Line.pixel_write_other _ _ ‹_›

/-- LOADCNT counts the pixel without wrapping. -/
theorem State.pushed_loadcnt {s : State} (c : Colour) (h : s.loadcnt.toNat < s.w) :
    (s.pushed c).loadcnt.toNat = s.loadcnt.toNat + 1 :=
  State.loadcnt_succ_toNat h

theorem pushPixel_of_full {c : Colour} {s : State} (h : s.w ≤ s.loadcnt.toNat) :
    pushPixel c s = .run (s.raise .malformedInput) true :=
  if_pos h

theorem pushPixel_of_room {c : Colour} {s : State} (h : s.loadcnt.toNat < s.w) (hw : s.w ≤ Config.wMax) :
    pushPixel c s = .run (s.pushed c) false := by
  rw [pushPixel, if_neg (not_le.2 h), if_neg (not_le.2 (h.trans_le hw))]
  rfl

theorem exec_pix_of_room {c : Colour} {s : State} (hp : s.phase = .page) (h : s.loadcnt.toNat < s.w)
    (hw : s.w ≤ Config.wMax) : exec (.pix c) s = .next (s.pushed c) := by
  rw [exec, execPix, whenPage_of_page hp, pushPixel_of_room h hw, Flow.run_outcome]

/-- Settles O44: the gate of PIX, its two bodies, and `State.pixel_pushed`. -/
theorem pixStoresOnePixel : Obligations.PixStoresOnePixel := by
  refine fun s c => ⟨whenPage_of_error, whenPage_of_closed, fun hp full => ?_, fun hp room hw => ?_⟩
  · rw [exec, execPix, whenPage_of_page hp, pushPixel_of_full full]
    rfl
  · have counted : BitVec.ofNat 12 (s.loadcnt.toNat + 1) = s.loadcnt + 1 :=
      BitVec.eq_of_toNat_eq (by simp)
    refine ⟨(s.pushed c).cur, ?_, s.pixel_pushed c⟩
    rw [exec_pix_of_room hp room hw, counted]
    rfl

/-- A run of one step more starts with that step. -/
theorem run_succ_of_step {M : Host.Core} {s u : M.State} (h : M.step s = .next u) (n : Nat) :
    M.run (n + 1) s = M.run n u := by
  simp only [Host.Core.run, h]

/-- What a step makes of the page when it serves a PIX with room in the line. -/
theorem step_pix {c : Colour} {s : State} {rest : List Request} (hin : s.inbox = encode (.pix c) :: rest)
    (hp : s.phase = .page) (h : s.loadcnt.toNat < s.w) (hw : s.w ≤ Config.wMax) :
    ∃ t, step s = .next t ∧ t.inbox = rest ∧ t.phase = .page ∧ t.w = s.w ∧ t.ref = s.ref ∧ t.sinkLog = s.sinkLog ∧
      t.loadcnt.toNat = s.loadcnt.toNat + 1 ∧
      ∀ i, t.cur.pixel i = if i = s.loadcnt.toNat then c else s.cur.pixel i := by
  refine ⟨({ s with inbox := rest } : State).pushed c, ?_, rfl, hp, rfl, rfl, rfl, State.pushed_loadcnt c h,
    State.pixel_pushed c _⟩
  rw [step_of_decode_instr hin (Laws.RoundTrip.pix c rfl)]
  exact exec_pix_of_room hp h hw

/-- Settles O45, by induction on the pixels: the first is stored at LOADCNT, and the others go right of it. -/
theorem pushedPixelsMakeUpTheLine : Obligations.PushedPixelsMakeUpTheLine := by
  intro pixels
  induction pixels with
  | nil => exact fun s rest hp _ _ hin => ⟨s, rfl, hin, hp, rfl, rfl, rfl, by simp, fun _ _ => rfl⟩
  | cons c pixels ih =>
    intro s rest hp hw room hin
    rw [List.length_cons] at room
    obtain ⟨u, first, uInbox, uPhase, uw, uRef, uLog, count, pixel⟩ := step_pix hin hp (by omega) hw
    obtain ⟨t, run, inbox, phase, loadcnt, ref, log, pushed, before⟩ :=
      ih u rest uPhase (uw ▸ hw) (by omega) uInbox
    refine ⟨t, (run_succ_of_step (M := Sys2Proof.core) first _).trans run, inbox, phase, ?_, ref.trans uRef,
      log.trans uLog, fun k d hk => ?_, fun i hi => ?_⟩
    · rw [loadcnt, count, List.length_cons]
      omega
    · cases k with
      | zero =>
        rw [before _ (by omega), pixel, Nat.add_zero, if_pos rfl]
        simpa using hk
      | succ k =>
        have later := pushed k d hk
        rwa [count, Nat.add_right_comm, Nat.add_assoc] at later
    · rw [before i (by omega), pixel, if_neg (by omega)]

end Sys2Proof.Machine
end

section
/-! ROW (44_page_sequencer R194, R195): with every transaction accepted, and ending in a fault. -/

namespace Sys2Proof.Machine

open Sys2Proof

/-- A ROWENC that ended with the phase it began with raised no fault. -/
theorem encodeRow_of_exec_rowenc {s u : State} (hp : s.phase ≠ .error) (h : exec .rowenc s = .next u)
    (hu : u.phase = s.phase) : encodeRow s = .run u false := by
  rcases unlessError_eq_next (f := encodeRow) h with ⟨he, _⟩ | ⟨_, b, hb⟩
  · exact absurd he hp
  · cases b with
    | false => exact hb
    | true => exact absurd (hu.symm.trans ((encodeRow_coded hb).raised rfl).1) hp

/-- A complete row whose codes are accepted goes on to its alignment with the reference updated. -/
theorem codeRow_of_encodeRow {s u : State} (hw : s.loadcnt.toNat = s.w) (h : encodeRow s = .run u false) :
    codeRow s = alignIfAsked u.adoptRow := by
  rw [codeRow, if_neg (not_not.2 hw), h]
  rfl

/-- The alignment, when asked for, in front of a sink that accepts it (R195). -/
theorem alignIfAsked_accepts {s : State} (ha : s.acceptsNext 1) :
    alignIfAsked s = .run (if s.ba then s.record .alignToByteBoundary true else s) false := by
  unfold alignIfAsked
  split
  · exact sinkTransact_accepts (n := 0) ha
  · rfl

/-- Settles O47: ROWENC's codes are O35's, and the script still accepts an alignment after them. -/
theorem rowEncodesAndAdoptsTheLine : Obligations.RowEncodesAndAdoptsTheLine := by
  intro s hp hload hw acc
  have notError : s.phase ≠ .error := by simp [hp]
  obtain ⟨u, codes, hexec, _, phase, errcode, frame, ge1, le, log, answers, count⟩ :=
    rowencEndsAtTheEndOfTheLine s notError hw (State.acceptsNext_of_le acc (by omega))
  have side : u.sinkSide = (s.sent codes).sinkSide := by
    simp only [State.sinkSide, log, answers, count, sendingCodesTouchesTheSinkAlone codes]
  have accAlign : u.adoptRow.acceptsNext 1 :=
    State.acceptsNext_of_sinkSide (s := s.sent codes) side
      (State.acceptsNext_sent (State.acceptsNext_of_le acc (by omega)))
  have row : codeRow s = _ := (codeRow_of_encodeRow hload (encodeRow_of_exec_rowenc notError hexec phase)).trans
    (alignIfAsked_accepts accAlign)
  have asked : u.adoptRow.ba = s.ba := frame.ba
  refine ⟨_, u, codes, by rw [exec, execRow, whenPage_of_page hp, row]; rfl, hexec, log, ge1, le, ?_⟩
  have sent : (s.sent codes).txCount = u.txCount := (congrArg (fun x => x.2.2) side).symm
  rw [asked]
  split
  · exact ⟨by simp [log, sent], frame.cur, rfl, rfl, phase.trans hp, errcode, frame.width, frame.ba, frame.inbox,
      frame.result⟩
  · exact ⟨log, frame.cur, rfl, rfl, phase.trans hp, errcode, frame.width, frame.ba, frame.inbox, frame.result⟩

/-- A ROWENC that raised a fault left a run outside the tables, or a refused code as the last transaction. -/
theorem encodeRow_fault {s t : State} (h : encodeRow s = .run t true) : t.errcode = .runLengthRange ∨
    (t.errcode = .sinkWriteFailure ∧ ∃ n c log, t.sinkLog = log ++ [⟨n, .writeCode c, false⟩]) := by
  rcases ((encodeRow_coded h).raised rfl).2 with sink | range
  · obtain ⟨⟨n, tx, accepted⟩, c, last, rfl, rfl⟩ := encodeRow_refused_last h sink
    obtain ⟨log, hlog⟩ := List.getLast?_eq_some_iff.1 last
    exact .inr ⟨sink, n, c, log, hlog⟩
  · exact .inl range

/-- An alignment that raised a fault was asked for and refused. -/
theorem alignIfAsked_fault {s t : State} {b : Bool} (hs : s.phase ≠ .error) (h : alignIfAsked s = .run t b)
    (ht : t.phase = .error) : s.ba = true ∧ t = s.sinkRefused .alignToByteBoundary := by
  rcases alignIfAsked_eq_run h with ⟨asked, ha⟩ | ⟨_, _, rfl⟩
  · rcases sinkTransact_cases ha with ⟨_, rfl⟩ | ⟨_, refused⟩
    · exact absurd ht hs
    · exact ⟨asked, refused⟩
  · exact absurd ht hs

/-- Settles O48: a fault inside ROWENC comes under its frame, one after it is the refused alignment. -/
theorem failedRowKeepsTheReference : Obligations.FailedRowKeepsTheReference := by
  intro s t hp hload h hfault
  rw [exec, execRow, whenPage_of_page hp] at h
  obtain ⟨b, hb⟩ := Flow.outcome_eq_next h
  rcases codeRow_eq_run hb with ⟨_, incomplete, _⟩ | ⟨_, _, he⟩ | ⟨_, u, he, ha⟩
  · exact absurd hload incomplete
  · have frame := (encodeRow_coded he).frame
    exact .inl ⟨frame.cur, frame.ref, frame.refv, frame.loadcnt, encodeRow_fault he⟩
  · have coded := encodeRow_coded he
    have phase : u.phase = .page := (coded.clean rfl).1.trans hp
    obtain ⟨asked, rfl⟩ := alignIfAsked_fault (by simp [phase]) ha hfault
    exact .inr ⟨coded.frame.ba.symm.trans asked, rfl, coded.frame.cur, rfl, rfl, _, _, rfl⟩

end Sys2Proof.Machine
end

section
/-! The command EOFB (44_page_sequencer R196, R201): its two transactions under each script, and what the finished page
looks like on the reference sink (20_memory R72, R75). -/

namespace Sys2Proof.Machine

open Sys2Proof

/-! ### The two transactions -/

section
variable {s : State}

theorem closePage_of_empty (h : s.loadcnt = 0) : closePage s =
    ((sinkCode eofbCode s).andThen sinkFinalize).andThen fun t => .run { t with phase := .done } false :=
  if_neg (not_not.2 (by rw [h]; rfl))

/-- The finished page: terminator and finalize accepted, PHASE DONE. -/
def State.finished (s : State) : State :=
  { (s.record (.writeCode eofbCode) true).record .finalize true with phase := .done }

theorem sinkCode_eofb_accepts {n : Nat} (ha : s.acceptsNext (n + 1)) :
    sinkCode eofbCode s = .run (s.record (.writeCode eofbCode) true) false :=
  sinkTransact_accepts ha

theorem exec_eofbCmd_accepts (hp : s.phase = .page) (hload : s.loadcnt = 0) (ha : s.acceptsNext 2) :
    exec .eofbCmd s = .next s.finished := by
  have final : sinkFinalize (s.record (.writeCode eofbCode) true) =
      .run ((s.record (.writeCode eofbCode) true).record .finalize true) false :=
    sinkTransact_accepts (n := 0) (State.acceptsNext_record _ _ ha)
  rw [exec, execEofbCmd, whenPage_of_page hp, closePage_of_empty hload, sinkCode_eofb_accepts ha,
    Flow.run_false_andThen, final]
  rfl

theorem exec_eofbCmd_refused (hp : s.phase = .page) (hload : s.loadcnt = 0) (hf : s.failsNext) :
    exec .eofbCmd s = .next (s.sinkRefused (.writeCode eofbCode)) := by
  rw [exec, execEofbCmd, whenPage_of_page hp, closePage_of_empty hload, sinkCode, sinkTransact_fails hf]
  rfl

theorem exec_eofbCmd_finalize_refused (hp : s.phase = .page) (hload : s.loadcnt = 0)
    (ha : s.acceptsNext 1) (hf : (s.record (.writeCode eofbCode) true).failsNext) :
    exec .eofbCmd s = .next ((s.record (.writeCode eofbCode) true).sinkRefused .finalize) := by
  rw [exec, execEofbCmd, whenPage_of_page hp, closePage_of_empty hload, sinkCode_eofb_accepts ha,
    Flow.run_false_andThen, sinkFinalize, sinkTransact_fails hf]
  rfl

end

/-- Settles O49: one lemma per script. -/
theorem eofbClosesThePage : Obligations.EofbClosesThePage := by
  refine fun s hp hload => ⟨exec_eofbCmd_accepts hp hload, exec_eofbCmd_refused hp hload, fun script => ?_⟩
  refine exec_eofbCmd_finalize_refused hp hload ?_ ?_
  · have one := congrArg (List.take 1) script
    rwa [List.take_take] at one
  · rw [State.failsNext, State.record_sinkAnswers, List.head?_tail]
    exact (List.getElem?_take_of_lt (by decide)).symm.trans (congrArg (·[1]?) script)

/-! ### The finished page on the reference sink -/

/-- The stream of a finished page (R201). -/
theorem State.refSink_finished {s : State} (hs : s.refSink.closed = false) : s.finished.refSink =
    ⟨s.refSink.bits ++ bitsOf 24 0x001001 ++ padding (s.refSink.bits.length + 24), true⟩ := by
  have terminated : (s.record (.writeCode eofbCode) true).refSink = ⟨s.refSink.bits ++ bitsOf 24 0x001001, false⟩ := by
    rw [State.refSink_record, RefSink.after, if_neg (by simp [hs])]
    rfl
  have final : s.finished.refSink = ((s.record (.writeCode eofbCode) true).record .finalize true).refSink := rfl
  rw [final, State.refSink_record, terminated]
  simp [RefSink.after, SinkTx.bits]

@[simp] theorem length_bytesOf (n : Nat) (bits : List Bool) : (bytesOf n bits).length = n := by
  induction n generalizing bits with
  | zero => rfl
  | succ n ih => rw [bytesOf, List.length_cons, ih]

/-- Bits that fill whole bytes are packed on their own, whatever follows them. -/
theorem bytesOf_append {n : Nat} {a : List Bool} (h : a.length = 8 * n) (m : Nat) (b : List Bool) :
    bytesOf (n + m) (a ++ b) = bytesOf n a ++ bytesOf m b := by
  induction n generalizing a with
  | zero =>
    obtain rfl : a = [] := List.length_eq_zero_iff.1 h
    rw [Nat.zero_add]
    rfl
  | succ n ih =>
    rw [Nat.add_right_comm, bytesOf, bytesOf, List.take_append_of_le_length (by omega),
      List.drop_append_of_le_length (by omega), ih (by rw [List.length_drop]; omega), List.cons_append]

/-- The terminator on a byte boundary is three bytes. -/
theorem bytesOf_terminator : bytesOf 3 (bitsOf 24 0x001001) = [0x00, 0x10, 0x01] := by decide

/-- Settles O50: `State.refSink_finished`, and on a byte boundary the bytes split before the terminator. -/
theorem finishedPageEndsWithTheTerminator : Obligations.FinishedPageEndsWithTheTerminator := by
  intro s hp hload ha hs
  have sink := State.refSink_finished hs
  have bits := congrArg RefSink.bits sink
  have closed := congrArg RefSink.closed sink
  have length : s.finished.refSink.bits.length = 8 * ((s.refSink.bits.length + 24 + 7) / 8) := by
    simp only [bits, padding, List.length_append, List.length_replicate, length_bitsOf]
    omega
  refine ⟨s.finished, bytesOf (s.finished.refSink.bits.length / 8) s.finished.refSink.bits,
    exec_eofbCmd_accepts hp hload ha, closed, bits, by omega, if_pos closed, by rw [length_bytesOf]; omega,
    fun aligned => ?_⟩
  have whole : s.refSink.bits.length = 8 * (s.refSink.bits.length / 8) := by omega
  have unpadded : padding (s.refSink.bits.length + 24) = [] := by
    rw [padding, show (8 - (s.refSink.bits.length + 24) % 8) % 8 = 0 by omega, List.replicate_zero]
  have count : s.finished.refSink.bits.length / 8 = s.refSink.bits.length / 8 + 3 := by omega
  rw [length_bytesOf, count, bits, unpadded, List.append_nil, bytesOf_append whole, bytesOf_terminator,
    Nat.add_sub_cancel, List.drop_left' (length_bytesOf _ _)]

end Sys2Proof.Machine
end

section
/-! A refusing sink under any operation (60_exceptions R211, R216, R250): which operations can issue a transaction at
all, and that each of them runs, under its gate, a body that follows the sink's script. -/

namespace Sys2Proof.Machine

open Sys2Proof

/-- The host's writes other than ROW and EOFB issue nothing. -/
theorem HostEffect.txCount_eq {i : Instr} {s t : State} (h : HostEffect i s t) (hrow : i ≠ .row)
    (heofb : i ≠ .eofbCmd) : t.txCount = s.txCount := by
  cases h with
  | rowFails _ _ _ => exact absurd rfl hrow
  | row _ _ _ _ => exact absurd rfl hrow
  | eofbFails _ _ => exact absurd rfl heofb
  | finalizeFails _ _ => exact absurd rfl heofb
  | eofb _ _ => exact absurd rfl heofb
  | _ => rfl

/-- How an operation meets the sink: as a gated line operation, as an operation of the open page, or not at all. -/
inductive SinkUse (i : Instr) : Prop
  | line (f : State → Flow) (hexec : exec i = unlessError f) (hf : ∀ s, FollowsScript f s)
  | page (f : State → Flow) (hexec : exec i = whenPage f) (hf : ∀ s, FollowsScript f s)
  | quiet (h : ∀ s t, exec i s = .next t → t.txCount = s.txCount)

theorem SinkUse.of_hostOp {i : Instr} (hi : HostOp i) (hrow : i ≠ .row) (heofb : i ≠ .eofbCmd) : SinkUse i :=
  .quiet fun _ _ h => (hostOp_cases hi h).txCount_eq hrow heofb

/-- An operation that hands out a value issues nothing. -/
theorem SinkUse.of_gives {i : Instr} (h : ∀ s t, exec i s = .next t → ∃ v, t = s.give v) : SinkUse i :=
  .quiet fun s t hexec => by
    obtain ⟨v, rfl⟩ := h s t hexec
    exact s.give_txCount v

theorem exec_sinkUse (i : Instr) : SinkUse i := by
  cases i with
  | p => exact .line passMode rfl passMode_followsScript
  | h => exact .line horizontalMode rfl horizontalMode_followsScript
  | v0 => exact .line _ rfl (verticalMode_followsScript 2)
  | vr1 => exact .line _ rfl (verticalMode_followsScript 3)
  | vr2 => exact .line _ rfl (verticalMode_followsScript 4)
  | vr3 => exact .line _ rfl (verticalMode_followsScript 5)
  | vl1 => exact .line _ rfl (verticalMode_followsScript 6)
  | vl2 => exact .line _ rfl (verticalMode_followsScript 7)
  | vl3 => exact .line _ rfl (verticalMode_followsScript 8)
  | eofb => exact .line _ rfl (sinkTransact_followsScript (.writeCode eofbCode))
  | align => exact .line _ rfl (sinkTransact_followsScript .alignToByteBoundary)
  | final => exact .line _ rfl (sinkTransact_followsScript .finalize)
  | rowenc => exact .line encodeRow rfl encodeRow_followsScript
  | run n c => exact .line _ rfl (runLength_followsScript n.toNat c)
  | row => exact .page codeRow rfl codeRow_followsScript
  | eofbCmd => exact .page closePage rfl closePage_followsScript
  | init => exact .of_hostOp .init (by simp) (by simp)
  | clear => exact .of_hostOp .clear (by simp) (by simp)
  | wrWidth w => exact .of_hostOp (.wrWidth w) (by simp) (by simp)
  | wrCtrl ba => exact .of_hostOp (.wrCtrl ba) (by simp) (by simp)
  | pix c => exact .of_hostOp (.pix c) (by simp) (by simp)
  | rdStatus => exact .of_gives fun s t h => ⟨_, by cases h; rfl⟩
  | rdLoadcnt => exact .of_gives fun s t h => ⟨_, by cases h; rfl⟩
  | scan l n start => exact .of_gives fun _ _ h => giveOr_eq_next h
  | lookupMode sym => exact .of_gives fun _ _ h => giveOr_eq_next h
  | lookupTerm c rem => exact .of_gives fun _ _ h => giveOr_eq_next h
  | lookupMakeup c quot => exact .of_gives fun _ _ h => giveOr_eq_next h
  | _ => exact .line (sendFrom _) rfl (sendFrom_followsScript _)

/-- An operation that issued a transaction was not stopped by its gate, and the gate does not look at the script: under
every script the operation is its body. -/
theorem exec_followsScript {i : Instr} {s t : State} (h : exec i s = .next t) (issued : s.txCount < t.txCount) :
    ∃ f b, f s = .run t b ∧ FollowsScript f s ∧ ∀ a, exec i (s.scripted a) = (f (s.scripted a)).outcome := by
  cases exec_sinkUse i with
  | line f hexec hf =>
    rw [hexec] at h ⊢
    rcases unlessError_eq_next h with ⟨_, rfl⟩ | ⟨hp, b, hb⟩
    · exact absurd issued (lt_irrefl _)
    · exact ⟨f, b, hb, hf s, fun a => unlessError_of_ne (s := s.scripted a) hp⟩
  | page f hexec hf =>
    rw [hexec] at h ⊢
    rcases whenPage_eq_next h with ⟨_, rfl⟩ | ⟨hp, b, hb⟩ | ⟨_, rfl⟩
    · exact absurd issued (lt_irrefl _)
    · exact ⟨f, b, hb, hf s, fun a => whenPage_of_page (s := s.scripted a) hp⟩
    · exact absurd issued (lt_irrefl _)
  | quiet hq => exact absurd (hq s t h) issued.ne'

/-- An operation of the emitted alphabet whose first transaction is refused. -/
theorem exec_of_sendsFirst_fails {i : Instr} {tx : SinkTx} {s : State} (hi : sendsFirst i tx) (hp : s.phase ≠ .error)
    (hf : s.failsNext) : exec i s = .next (s.sinkRefused tx) := by
  obtain ⟨rest, hexec, _⟩ := sendsFirst_spec hi
  rw [hexec, unlessError_of_ne hp, sinkTransact_fails hf]
  rfl

/-- Settles O22: `exec_of_sendsFirst_fails` for a first transaction, and for the others what following the script says
of an answer *fail*. -/
theorem everyEmissionSitePropagatesFailure : Obligations.EveryEmissionSitePropagatesFailure := by
  refine ⟨fun i tx s => exec_of_sendsFirst_fails, fun i s t k more h hk answered => ?_⟩
  obtain ⟨f, b, hrun, follows, body⟩ := exec_followsScript h (by omega)
  obtain ⟨n, count, _, _, _, script⟩ := follows t b hrun
  obtain ⟨_, e, u, event, refused, rest⟩ := (script k answered more).2 (by omega)
  exact ⟨e, u, event, by rw [body, refused]; rfl, rest⟩

end Sys2Proof.Machine
end

section
/-! The other faults and what phase ERROR ignores (60_exceptions R212 to R214, R220): host writes in phase ERROR, INIT,
and the MalformedInput of ROW and EOFB. -/

namespace Sys2Proof.Machine

open Sys2Proof

/-! ### Phase ERROR -/

/-- Everything a host write decodes to: one of the host's operations, CLEAR for its command code alone, or one of the
two accesses without a row. -/
theorem decodeWrite_cases (offset data : Word) :
    (∃ i, decodeWrite offset data = .instr i ∧ HostOp i ∧ (i = .clear → offset = 0x08 ∧ data.toNat % 8 = 4)) ∨
      decodeWrite offset data = .access .ignoredWrite ∨ decodeWrite offset data = .access .reservedCommand := by
  unfold decodeWrite
  split
  · exact .inl ⟨_, rfl, .wrWidth _, by simp⟩
  · exact .inl ⟨_, rfl, .wrCtrl _, by simp⟩
  · next hoffset =>
    rw [decodeCommand_eq]
    split_ifs with init row eofb clear
    · exact .inl ⟨_, rfl, .init, by simp⟩
    · exact .inl ⟨_, rfl, .row, by simp⟩
    · exact .inl ⟨_, rfl, .eofbCmd, by simp⟩
    · exact .inl ⟨_, rfl, .clear, fun _ => ⟨BitVec.eq_of_toNat_eq hoffset, clear⟩⟩
    · exact .inr (.inr rfl)
  · exact .inl ⟨_, rfl, .pix _, by simp⟩
  · exact .inr (.inl rfl)

/-- Every host write but CLEAR stands behind a gate that ignores it in phase ERROR (R190, R220). -/
theorem exec_hostOp_of_error {i : Instr} {s : State} (hi : HostOp i) (hclear : i ≠ .clear) (hp : s.phase = .error) :
    exec i s = .next s := by
  cases hi with
  | wrWidth w => exact (exec_wrWidth_eq w s).trans (unlessPage_of_error hp)
  | wrCtrl ba => exact (exec_wrCtrl_eq ba s).trans (unlessPage_of_error hp)
  | init => exact unlessPage_of_error hp
  | pix c => exact whenPage_of_error hp
  | row => exact whenPage_of_error hp
  | eofbCmd => exact whenPage_of_error hp
  | clear => exact absurd rfl hclear

/-- Settles O55: `exec_hostOp_of_error` for the operations, and the two accesses a write can be. -/
theorem errorIgnoresEveryWriteButClear : Obligations.ErrorIgnoresEveryWriteButClear := by
  intro s offset data rest hp hin notClear
  rcases decodeWrite_cases offset data with ⟨i, hd, hi, hclear⟩ | hd | hd
  · rw [step_of_decode_instr hin hd]
    exact exec_hostOp_of_error hi (fun h => notClear (hclear h)) hp
  · exact step_of_decode_access hin hd
  · rw [step_of_decode_access hin hd]
    exact if_pos hp

/-! ### INIT -/

theorem openPage_of_badWidth {s : State} (h : s.w = 0 ∨ 2623 < s.w) :
    openPage s = .run (s.raise .configError) true :=
  if_pos (h.imp_left fun h0 => by omega)

theorem openPage_of_legalWidth {s : State} (h1 : 1 ≤ s.w) (h2 : s.w ≤ 2623) : openPage s =
    .run ({ s with refv := false, loadcnt := 0, phase := .page } : State).forgetCur.forgetRef false :=
  if_neg (not_or.2 ⟨not_lt.2 h1, not_lt.2 h2⟩)

/-- Settles O43: the gate of INIT in each phase, and its body for either kind of width. -/
theorem initOpensThePage : Obligations.InitOpensThePage := by
  refine fun s => ⟨unlessPage_of_error, unlessPage_of_page, fun hp => ⟨fun bad => ?_, fun h1 h2 => ?_⟩⟩
  · rw [exec, execInit, unlessPage_of_closed hp, openPage_of_badWidth bad]
    rfl
  · rw [exec, execInit, unlessPage_of_closed hp, openPage_of_legalWidth h1 h2]
    exact ⟨_, _, _, rfl⟩

/-! ### MalformedInput -/

theorem codeRow_of_incomplete {s : State} (h : s.loadcnt.toNat ≠ s.w) :
    codeRow s = .run (s.raise .malformedInput) true :=
  if_pos h

theorem closePage_of_pending {s : State} (h : s.loadcnt.toNat ≠ 0) :
    closePage s = .run (s.raise .malformedInput) true :=
  if_pos h

/-- Settles O46: both bodies check LOADCNT before their first transaction. -/
theorem malformedRowsSendNothing : Obligations.MalformedRowsSendNothing := by
  refine fun s hp => ⟨fun incomplete => ?_, fun pending => ?_⟩
  · rw [exec, execRow, whenPage_of_page hp, codeRow_of_incomplete incomplete]
    rfl
  · rw [exec, execEofbCmd, whenPage_of_page hp, closePage_of_pending pending]
    rfl

end Sys2Proof.Machine
end

section
/-! The line buffers CUR and REF (70_reset_and_hazards R245, R246, 10_state R37, R38): which operation and which access
changes them, and to what. -/

namespace Sys2Proof.Machine

open Sys2Proof

/-- Which operation may change the line buffers, and to what. -/
structure LinesRule (i : Instr) (s t : State) : Prop where
  ref : t.ref = s.ref ∨ (i = .row ∧ t.ref = s.cur ∧ t.refv = true) ∨ ((i = .init ∨ i = .clear) ∧ t.refv = false)
  cur : t.cur = s.cur ∨ (∃ c, i = .pix c ∧ t.cur = (s.pushed c).cur) ∨
    i = .init ∨ i = .row ∨ i = .clear

theorem State.LineFrame.lines {i : Instr} {s t : State} (h : s.LineFrame t) : LinesRule i s t :=
  ⟨.inl h.ref, .inl h.cur⟩

theorem HostEffect.lines {i : Instr} {s t : State} (h : HostEffect i s t) : LinesRule i s t := by
  cases h with
  | init _ _ _ => exact ⟨.inr (.inr ⟨.inl rfl, rfl⟩), .inr (.inr (.inl rfl))⟩
  | pix c _ _ _ => exact ⟨.inl rfl, .inr (.inl ⟨c, rfl, rfl⟩)⟩
  | rowFails _ _ h => exact (encodeRow_coded h).frame.lines
  | row _ _ h ha =>
    have coded := (encodeRow_coded h).frame
    have aligned := (alignIfAsked_coded ha).frame
    exact ⟨.inr (.inl ⟨rfl, aligned.ref.trans coded.cur, aligned.refv⟩), .inr (.inr (.inr (.inl rfl)))⟩
  | clear => exact ⟨.inr (.inr ⟨.inr rfl, rfl⟩), .inr (.inr (.inr (.inr rfl)))⟩
  | _ => exact ⟨.inl rfl, .inl rfl⟩

theorem exec_lines {i : Instr} {s t : State} (h : exec i s = .next t) : LinesRule i s t := by
  rcases exec_cases h with ⟨_, rfl⟩ | ⟨_, b, hc⟩ | ⟨v, rfl⟩ | hi
  · exact ⟨.inl rfl, .inl rfl⟩
  · exact hc.frame.lines
  · exact ⟨.inl rfl, .inl rfl⟩
  · exact (hostOp_cases hi h).lines

/-- Of the accesses without a row only a reset touches the line buffers, and it leaves no usable reference. -/
theorem AccessEffect.lines {a : HostAccess} {s t : State} (h : AccessEffect a s t) :
    (t.ref = s.ref ∧ t.cur = s.cur) ∨
      ((a = .hardwareReset ∨ ∃ offset data n, a = .resetDuring offset data n) ∧ t.refv = false) := by
  cases h with
  | reset sent ha => exact .inr ⟨ha, rfl⟩
  | _ => exact .inl ⟨rfl, rfl⟩

/-- Settles O57: `exec_lines` for the operations, `AccessEffect.lines` for the accesses without a row; that PIX changes
one pixel is `State.pixel_pushed`. -/
theorem lineBuffersChangeOnlyAsStated : Obligations.LineBuffersChangeOnlyAsStated := by
  intro s t req rest hin h
  rcases step_cases hin h with ⟨i, hd, he⟩ | ⟨a, hd, ha⟩
  · have is_op {j : Instr} (hi : i = j) : decode req = .instr j := hi ▸ hd
    have rule := exec_lines he
    refine ⟨?_, ?_⟩
    · rcases rule.ref with same | ⟨row, adopted, usable⟩ | ⟨hi, unusable⟩
      · exact .inl same
      · exact .inr (.inl ⟨is_op row, adopted, usable⟩)
      · exact .inr (.inr ⟨hi.imp is_op fun clear => .inl (is_op clear), unusable⟩)
    · rcases rule.cur with same | ⟨c, pix, written⟩ | hi
      · exact .inl same
      · exact .inr (.inl ⟨c, is_op pix, fun k => written ▸ State.pixel_pushed c _ k⟩)
      · exact .inr (.inr (hi.imp is_op (Or.imp is_op fun clear => .inl (is_op clear))))
  · rcases (hostAccess_cases ha).lines with ⟨ref, cur⟩ | ⟨reset, unusable⟩
    · exact ⟨.inl ref, .inl cur⟩
    · have reset := isReset_of_decode hd reset
      exact ⟨.inr (.inr ⟨.inr (.inr reset), unusable⟩), .inr (.inr (.inr (.inr (.inr reset))))⟩

end Sys2Proof.Machine
end

section
/-! Host accesses always complete (70_reset_and_hazards R253): in front of a sink that answers, no phase check, body or
transaction of a host operation refuses or gets stuck under the invariant of the machine. -/

namespace Sys2Proof.Machine

open Sys2Proof

/-- The operation comes to a state, a fault raised or not. -/
def Completes (f : Flow) : Prop :=
  ∃ t b, f = .run t b

theorem Completes.of_run (s : State) (b : Bool) : Completes (.run s b) := ⟨s, b, rfl⟩

theorem SinkFaultOnly.completes {f : Flow} (h : SinkFaultOnly f) : Completes f := by
  obtain ⟨t, b, h, _⟩ := h
  exact ⟨t, b, h⟩

theorem Completes.andThen {f : Flow} {k : State → Flow} (hf : Completes f)
    (hk : ∀ t, f = .run t false → Completes (k t)) : Completes (f.andThen k) := by
  obtain ⟨t, b, rfl⟩ := hf
  cases b with
  | true => exact .of_run t true
  | false => exact hk t rfl

theorem Completes.outcome {f : Flow} (h : Completes f) : ∃ t, f.outcome = .next t := by
  obtain ⟨t, b, rfl⟩ := h
  exact ⟨t, rfl⟩

/-! ### The gates -/

section
variable {f : State → Flow} {s : State}

theorem unlessPage_completes (h : Completes (f s)) : ∃ t, unlessPage f s = .next t := by
  cases hp : s.phase with
  | idle => exact unlessPage_of_closed (.inl hp) ▸ h.outcome
  | page => exact ⟨_, unlessPage_of_page hp⟩
  | done => exact unlessPage_of_closed (.inr hp) ▸ h.outcome
  | error => exact ⟨_, unlessPage_of_error hp⟩

theorem whenPage_completes (h : s.phase = .page → Completes (f s)) : ∃ t, whenPage f s = .next t := by
  cases hp : s.phase with
  | idle => exact ⟨_, whenPage_of_closed (.inl hp)⟩
  | page => exact whenPage_of_page hp ▸ (h hp).outcome
  | done => exact ⟨_, whenPage_of_closed (.inr hp)⟩
  | error => exact ⟨_, whenPage_of_error hp⟩

end

/-! ### The bodies -/

section
variable {s : State}

theorem openPage_completes (s : State) : Completes (openPage s) := by
  unfold openPage
  split
  · exact .of_run _ _
  · exact .of_run _ _

/-- With a legal width LOADCNT leaves the line before it leaves the buffer's cells (20_memory R61). -/
theorem pushPixel_completes (c : Colour) (hw : s.w ≤ Config.wMax) : Completes (pushPixel c s) := by
  rcases Nat.lt_or_ge s.loadcnt.toNat s.w with room | full
  · exact pushPixel_of_room room hw ▸ .of_run _ _
  · exact pushPixel_of_full full ▸ .of_run _ _

theorem sinkTransact_completes (tx : SinkTx) (hs : s.answering) : Completes (sinkTransact tx s) :=
  sinkTransact_answers hs

theorem alignIfAsked_completes (hs : s.answering) : Completes (alignIfAsked s) := by
  unfold alignIfAsked
  split
  · exact sinkTransact_completes _ hs
  · exact .of_run _ _

theorem codeRow_completes (hw : s.w ≤ Config.wMax) (hs : s.answering) : Completes (codeRow s) := by
  by_cases loaded : s.loadcnt.toNat = s.w
  · rw [codeRow, if_neg (not_not.2 loaded), Flow.andThen_assoc]
    refine (encodeRow_sinkFaultOnly hw hs).completes.andThen fun t ht => ?_
    have answering : t.answering := (encodeRow_followsScript s).answering ht hs
    exact alignIfAsked_completes (s := t.adoptRow) answering
  · exact codeRow_of_incomplete loaded ▸ .of_run _ _

theorem closePage_completes (hs : s.answering) : Completes (closePage s) := by
  by_cases empty : s.loadcnt.toNat = 0
  · rw [closePage, if_neg (not_not.2 empty)]
    have terminator : Completes ((sinkCode eofbCode s).andThen sinkFinalize) :=
      (sinkTransact_completes _ hs).andThen fun t ht =>
        sinkTransact_completes _ ((sinkTransact_followsScript _ s).answering ht hs)
    exact terminator.andThen fun _ _ => .of_run _ _
  · exact closePage_of_pending empty ▸ .of_run _ _

/-- Every host write comes to a next state under the invariant, in front of a sink that answers. -/
theorem exec_hostOp_completes {i : Instr} (hi : HostOp i) (inv : s.Inv) (hs : s.answering) :
    ∃ t, exec i s = .next t := by
  cases hi with
  | wrWidth w => exact exec_wrWidth_eq w s ▸ unlessPage_completes (.of_run _ _)
  | wrCtrl ba => exact exec_wrCtrl_eq ba s ▸ unlessPage_completes (.of_run _ _)
  | init => exact unlessPage_completes (openPage_completes s)
  | pix c => exact whenPage_completes fun hp => pushPixel_completes c (inv.pageWidth hp).2
  | row => exact whenPage_completes fun hp => codeRow_completes (inv.pageWidth hp).2 hs
  | eofbCmd => exact whenPage_completes fun _ => closePage_completes hs
  | clear => exact ⟨_, rfl⟩

end

/-! ### The accesses -/

theorem hostAccess_reservedCommand_completes (s : State) : ∃ t, hostAccess .reservedCommand s = .next t := by
  by_cases hp : s.phase = .error
  · exact ⟨s, if_pos hp⟩
  · exact ⟨s.raise .protocolError, if_neg hp⟩

theorem hostWrite_completes {s : State} {offset data : Word} {rest : List Request} (inv : s.Inv) (hs : s.answering)
    (hin : s.inbox = .hostWrite offset data :: rest) : ∃ t, step s = .next t := by
  rcases decodeWrite_cases offset data with ⟨i, hd, hi, _⟩ | hd | hd
  · rw [step_of_decode_instr hin hd]
    exact exec_hostOp_completes hi (inv.congr rfl rfl rfl rfl rfl rfl rfl) hs
  · exact ⟨_, step_of_decode_access hin hd⟩
  · rw [step_of_decode_access hin hd]
    exact hostAccess_reservedCommand_completes _

/-- A read hands out a register or 0. -/
theorem hostRead_completes {s : State} {offset : Word} {rest : List Request}
    (hin : s.inbox = .hostRead offset :: rest) : ∃ t, step s = .next t := by
  have reads : decodeRead offset = .access .readWidth ∨ decodeRead offset = .access .readCtrl ∨
      decodeRead offset = .instr .rdStatus ∨ decodeRead offset = .instr .rdLoadcnt ∨
      decodeRead offset = .access .readZero := by
    unfold decodeRead
    split <;> simp
  rcases reads with hd | hd | hd | hd | hd
  · exact ⟨_, step_of_decode_access hin hd⟩
  · exact ⟨_, step_of_decode_access hin hd⟩
  · exact ⟨_, step_of_decode_instr hin hd⟩
  · exact ⟨_, step_of_decode_instr hin hd⟩
  · exact ⟨_, step_of_decode_access hin hd⟩

/-- Settles O5: `hostWrite_completes` and `hostRead_completes`. -/
theorem hostAccessesAlwaysComplete : Obligations.HostAccessesAlwaysComplete := by
  rintro s req rest inv hs hin (⟨offset, data, rfl⟩ | ⟨offset, rfl⟩)
  · exact hostWrite_completes inv hs hin
  · exact hostRead_completes hin

end Sys2Proof.Machine
end

section
/-! A silent sink under any operation (70_reset_and_hazards R253, 20_memory R74). -/

namespace Sys2Proof.Machine

open Sys2Proof

theorem sinkTransact_silent {tx : SinkTx} {s : State} (h : s.sinkAnswers.head? = some .silent) :
    sinkTransact tx s = .stop .sinkNoAnswer := by
  obtain ⟨rest, hrest⟩ := List.head?_eq_some_iff.1 h
  simp only [sinkTransact, State.sinkVerdict, hrest]

/-- An operation of the emitted alphabet whose first transaction is never answered. -/
theorem exec_of_sendsFirst_silent {i : Instr} {tx : SinkTx} {s : State} (hi : sendsFirst i tx) (hp : s.phase ≠ .error)
    (hsilent : s.sinkAnswers.head? = some .silent) : exec i s = .fault .sinkNoAnswer := by
  obtain ⟨rest, hexec, _⟩ := sendsFirst_spec hi
  rw [hexec, unlessError_of_ne hp, sinkTransact_silent hsilent]
  rfl

/-- Settles O23: `exec_of_sendsFirst_silent` for a first transaction, and for the others what following the script says
of no answer. -/
theorem silentSinkStopsTheBlock : Obligations.SilentSinkStopsTheBlock := by
  refine ⟨fun i tx s => exec_of_sendsFirst_silent, fun i s t k more h hk answered => ?_⟩
  obtain ⟨f, b, hrun, follows, body⟩ := exec_followsScript h (by omega)
  obtain ⟨n, count, _, _, _, script⟩ := follows t b hrun
  obtain ⟨stuck, _⟩ := (script k answered more).2 (by omega)
  rw [body, stuck]
  rfl

end Sys2Proof.Machine
end

section
/-! Hardware reset (70_reset_and_hazards R240 to R242): the values it leaves, and what the sink holds after a reset that
comes inside a host write. -/

namespace Sys2Proof.Machine

open Sys2Proof

/-! ### The values -/

/-- The registers the spec gives a reset value have it (10_state R41, R241). -/
structure State.ResetValues (t : State) : Prop where
  phase : t.phase = .idle
  errcode : t.errcode = .none
  width : t.width = 0
  ba : t.ba = false
  refv : t.refv = false
  loadcnt : t.loadcnt = 0
  a0 : t.a0.toInt = -1
  a0c : t.a0c = .white

theorem State.reset_resetValues : State.reset.ResetValues := ⟨rfl, rfl, rfl, rfl, rfl, rfl, rfl, rfl⟩

theorem State.abandoned_resetValues (s : State) (sent : List SinkEvent) : (s.abandoned sent).ResetValues :=
  ⟨rfl, rfl, rfl, rfl, rfl, rfl, rfl, rfl⟩

theorem State.hardwareReset_resetValues (s : State) : s.hardwareReset.ResetValues :=
  s.abandoned_nil ▸ s.abandoned_resetValues []

/-- A reset, between commands or inside one, leaves the reset values. -/
theorem step_reset_values {s t : State} {req : Request} {rest : List Request} (hin : s.inbox = req :: rest)
    (hr : isReset req) (h : step s = .next t) : t.ResetValues := by
  rcases hr with hd | ⟨offset, data, n, hd⟩
  · rw [step_of_decode_access hin hd] at h
    cases h
    exact State.hardwareReset_resetValues _
  · rw [step_of_decode_access hin hd] at h
    rcases resetDuringWrite_cases h with rfl | ⟨_, _, _, _, rfl⟩
    · exact State.hardwareReset_resetValues _
    · exact State.abandoned_resetValues _ _

/-! ### A reset inside a host write comes to a next state -/

/-- A script cut after answers none of which is silent answers (R253). -/
theorem State.answering_answersUpTo {s : State} {n : Nat} (h : .silent ∉ s.sinkAnswers.take n) :
    (s.scripted (s.answersUpTo n)).answering := by
  unfold State.answering State.answersUpTo
  split
  · simpa using h
  · rwa [List.take_of_length_le (by omega)] at h

theorem resetDuringWrite_completes {s : State} (offset data : Word) {n : Nat} (inv : s.Inv)
    (h : .silent ∉ s.sinkAnswers.take n) : ∃ t, resetDuringWrite (decodeWrite offset data) n s = .next t := by
  rcases decodeWrite_cases offset data with ⟨i, hd, hi, _⟩ | hd | hd
  · have cut : (s.scripted (s.answersUpTo n)).Inv := inv.congr rfl rfl rfl rfl rfl rfl rfl
    obtain ⟨u, hu⟩ := exec_hostOp_completes hi cut (State.answering_answersUpTo h)
    have hu : exec i { s with sinkAnswers := s.answersUpTo n } = .next u := hu
    simp only [hd, resetDuringWrite, hu]
    exact ⟨_, rfl⟩
  · exact ⟨_, by rw [hd]; rfl⟩
  · exact ⟨_, by rw [hd]; rfl⟩

/-! ### What the sink holds -/

theorem exec_sinkLog_of_txCount {i : Instr} {s t : State} (h : exec i s = .next t) (hn : t.txCount = s.txCount) :
    t.sinkLog = s.sinkLog := by
  obtain ⟨new, issued, _⟩ := exec_transacts h
  have count := issued.count
  have new_nil : new = [] := List.length_eq_zero_iff.1 (by omega)
  rw [issued.log, new_nil, List.append_nil]

theorem exec_sinkLog_extends {i : Instr} {s t : State} (h : exec i s = .next t) : s.sinkLog <+: t.sinkLog := by
  obtain ⟨new, issued, _⟩ := exec_transacts h
  exact ⟨new, issued.log.symm⟩

/-- The gates do not look at the script: under every script an operation issues nothing, or is one body that follows
the script. -/
theorem exec_quiet_or_body (i : Instr) (s : State) :
    (∀ a t, exec i (s.scripted a) = .next t → t.sinkLog = s.sinkLog) ∨
      ∃ f, (∀ a, exec i (s.scripted a) = (f (s.scripted a)).outcome) ∧ ∀ t, FollowsScript f t := by
  cases exec_sinkUse i with
  | line f hexec hf =>
    rw [hexec]
    by_cases hp : s.phase = .error
    · exact .inl fun a t h => by cases (if_pos (c := (s.scripted a).phase = .error) hp).symm.trans h; rfl
    · exact .inr ⟨f, fun a => unlessError_of_ne (s := s.scripted a) hp, hf⟩
  | page f hexec hf =>
    rw [hexec]
    cases hp : s.phase with
    | idle => exact .inl fun a t h => by cases (whenPage_of_closed (s := s.scripted a) (.inl hp)).symm.trans h; rfl
    | page => exact .inr ⟨f, fun a => whenPage_of_page (s := s.scripted a) hp, hf⟩
    | done => exact .inl fun a t h => by cases (whenPage_of_closed (s := s.scripted a) (.inr hp)).symm.trans h; rfl
    | error => exact .inl fun a t h => by cases (whenPage_of_error (s := s.scripted a) hp).symm.trans h; rfl
  | quiet hq => exact .inl fun a t h => exec_sinkLog_of_txCount (s := s.scripted a) h (hq (s.scripted a) t h)

/-- A script cut after `n` answers makes a body issue the same first `n` transactions. -/
theorem FollowsScript.take_sinkLog {f : State → Flow} {s u v : State} {b c : Bool} {n : Nat} (hf : FollowsScript f s)
    (hu : f s = .run u b) (hn : n ≤ s.sinkAnswers.length)
    (hv : f (s.scripted (s.sinkAnswers.take n ++ [.fail])) = .run v c) :
    v.sinkLog.take (s.sinkLog.length + n) = u.sinkLog.take (s.sinkLog.length + n) := by
  obtain ⟨m, _, length, _, _, script⟩ := hf u b hu
  rcases Nat.lt_or_ge n m with cut | whole
  · obtain ⟨_, _, w, _, refused, log, _⟩ := (script n hn []).2 cut
    rw [refused] at hv
    cases hv
    rw [log, List.take_append_of_le_length (by simp; omega), List.take_take, Nat.min_self]
  · rw [(script n hn [.fail]).1 whole] at hv
    cases hv
    rfl

/-- A script cut after `n` answers makes an operation issue the same first `n` transactions. -/
theorem exec_take_sinkLog {i : Instr} {s u v : State} {answers : List SinkAnswer} {n : Nat}
    (hu : exec i (s.scripted answers) = .next u) (hn : n ≤ answers.length)
    (hv : exec i (s.scripted (answers.take n ++ [.fail])) = .next v) :
    v.sinkLog.take (s.sinkLog.length + n) = u.sinkLog.take (s.sinkLog.length + n) := by
  rcases exec_quiet_or_body i s with quiet | ⟨f, body, follows⟩
  · rw [quiet _ u hu, quiet _ v hv]
  · rw [body] at hu hv
    obtain ⟨b, hu⟩ := Flow.outcome_eq_next hu
    obtain ⟨c, hv⟩ := Flow.outcome_eq_next hv
    exact (follows (s.scripted answers)).take_sinkLog hu hn hv

/-- The answers a write with a reset inside it sees are those of the write without it, or those cut after the first
`n`. -/
theorem State.answersUpTo_cases {s : State} {n : Nat} {answers later : List SinkAnswer}
    (h : answers = s.sinkAnswers ∨ (n ≤ s.sinkAnswers.length ∧ answers = s.sinkAnswers.take n ++ later)) :
    s.answersUpTo n = answers ∨ (n ≤ answers.length ∧ s.answersUpTo n = answers.take n ++ [.fail]) := by
  unfold State.answersUpTo
  by_cases hn : n ≤ s.sinkAnswers.length
  · rw [if_pos hn]
    rcases h with rfl | ⟨_, rfl⟩
    · exact .inr ⟨hn, rfl⟩
    · have length : (s.sinkAnswers.take n).length = n := List.length_take_of_le hn
      exact .inr ⟨by simp; omega, by rw [List.take_left' length]⟩
  · rw [if_neg hn]
    rcases h with rfl | ⟨le, _⟩
    · exact .inl rfl
    · exact absurd le hn

/-- The log is cut after the first `n` new transactions of the write without the reset, and the sink answered those and
no others (R240). -/
theorem resetDuringWrite_sink {s t : State} {offset data : Word} {n : Nat}
    (h : resetDuringWrite (decodeWrite offset data) n s = .next t) :
    ∃ m ≤ n, t.sinkLog.length = s.sinkLog.length + m ∧ t.txCount = s.txCount + m ∧
      t.sinkAnswers = s.sinkAnswers.drop m := by
  rcases resetDuringWrite_cases h with rfl | ⟨i, u, _, _, rfl⟩
  · exact ⟨0, Nat.zero_le n, rfl, rfl, rfl⟩
  · exact ⟨((u.sinkLog.drop s.sinkLog.length).take n).length, List.length_take_le _ _, List.length_append, rfl, rfl⟩

/-- A reset inside an operation keeps the first `n` transactions the operation would send. -/
theorem resetDuringWrite_instr_eq_next {i : Instr} {s t : State} {n : Nat}
    (h : resetDuringWrite (.instr i) n s = .next t) :
    ∃ v, exec i (s.scripted (s.answersUpTo n)) = .next v ∧ t.sinkLog = v.sinkLog.take (s.sinkLog.length + n) := by
  unfold resetDuringWrite at h
  simp only at h
  split at h
  · next v hv =>
    cases h
    obtain ⟨new, hnew⟩ : s.sinkLog <+: v.sinkLog := exec_sinkLog_extends (s := s.scripted (s.answersUpTo n)) hv
    refine ⟨v, hv, ?_⟩
    rw [State.abandoned_sinkLog, ← hnew, List.drop_left, List.take_length_add_append]
  · next stuck => exact absurd h (stuck t)

/-- The first `n` transactions of an operation do not depend on whether a reset comes after them. -/
theorem resetDuringWrite_instr_sinkLog {i : Instr} {s t u : State} {n : Nat} {answers later : List SinkAnswer}
    (hanswers : answers = s.sinkAnswers ∨ (n ≤ s.sinkAnswers.length ∧ answers = s.sinkAnswers.take n ++ later))
    (ht : resetDuringWrite (.instr i) n s = .next t) (hu : exec i (s.scripted answers) = .next u) :
    t.sinkLog = u.sinkLog.take (s.sinkLog.length + n) := by
  obtain ⟨v, hv, log⟩ := resetDuringWrite_instr_eq_next ht
  rw [log]
  rcases State.answersUpTo_cases hanswers with same | ⟨le, cut⟩
  · rw [same] at hv
    cases hv.symm.trans hu
    rfl
  · exact exec_take_sinkLog hu le (cut ▸ hv)

theorem hostAccess_reservedCommand_sinkLog {s t : State} (h : hostAccess .reservedCommand s = .next t) :
    t.sinkLog = s.sinkLog := by
  simp only [hostAccess] at h
  split at h
  · cases h; rfl
  · cases h; rfl

/-- A reset inside a host write leaves on the sink what the write leaves without it, cut after the first `n` new
transactions (R240). -/
theorem resetDuringWrite_sinkLog {s t u : State} {offset data : Word} {n : Nat} {rest : List Request}
    {answers later : List SinkAnswer}
    (hanswers : answers = s.sinkAnswers ∨ (n ≤ s.sinkAnswers.length ∧ answers = s.sinkAnswers.take n ++ later))
    (ht : resetDuringWrite (decodeWrite offset data) n { s with inbox := rest } = .next t)
    (hu : step { s with inbox := .hostWrite offset data :: rest, sinkAnswers := answers } = .next u) :
    t.sinkLog = u.sinkLog.take (s.sinkLog.length + n) := by
  have whole : s.sinkLog = s.sinkLog.take (s.sinkLog.length + n) := (List.take_of_length_le (by omega)).symm
  rcases decodeWrite_cases offset data with ⟨i, hd, _⟩ | hd | hd
  · rw [step_of_decode_instr (req := .hostWrite offset data) rfl hd] at hu
    rw [hd] at ht
    exact resetDuringWrite_instr_sinkLog (s := { s with inbox := rest }) hanswers ht hu
  · rw [step_of_decode_access (req := .hostWrite offset data) rfl hd] at hu
    rw [hd] at ht
    cases ht
    cases hu
    exact whole
  · rw [step_of_decode_access (req := .hostWrite offset data) rfl hd] at hu
    rw [hd] at ht
    cases ht
    rw [hostAccess_reservedCommand_sinkLog hu]
    exact whole

/-- Settles O2: `State.ResetValues` after every reset, and for a reset inside a host write `resetDuringWrite_completes`,
`resetDuringWrite_sink` and `resetDuringWrite_sinkLog`. -/
theorem resetLeavesTheStatedValues : Obligations.ResetLeavesTheStatedValues := by
  refine ⟨fun t ht => ?_, fun s => ⟨_, rfl, rfl, rfl, rfl, rfl, rfl⟩, fun s hin => ?_,
    fun s offset data n rest hin => ?_⟩
  · have values : t.ResetValues := by
      rcases ht with rfl | ⟨s, req, hr, h⟩
      · exact State.reset_resetValues
      · exact step_reset_values (s := { s with inbox := [req] }) rfl hr h
    exact ⟨values.phase, values.errcode, values.width, values.ba, values.refv, values.loadcnt, values.a0, values.a0c⟩
  · simp only [step, hin]
  · rw [step_of_decode_access (a := .resetDuring offset data n) hin rfl]
    have served : s.Inv → ({ s with inbox := rest } : State).Inv := fun inv => inv.congr rfl rfl rfl rfl rfl rfl rfl
    exact ⟨fun inv => resetDuringWrite_completes (s := { s with inbox := rest }) offset data (served inv),
      fun t ht => ⟨resetDuringWrite_sink (s := { s with inbox := rest }) ht,
        fun _ _ _ hanswers => resetDuringWrite_sinkLog hanswers ht⟩⟩

end Sys2Proof.Machine
end
